-- ==== Sys2Proof/Word.lean ====
section
/-! DEFINITION. The words of the go_rainbow CORE: the fixed widths of 00_scope.md R7, 30_encoding.md R61, R63, R64 and 00_scope.md R6 (TIME_W). -/

namespace Sys2Proof

/-- An 8-bit unsigned value: a hue, a saturation, a value or a color channel (00_scope.md R7). -/
abbrev Byte := BitVec 8

/-- The `hsv_in` word, fields h, s, v from the top (30_encoding.md R61). -/
abbrev Hsv24 := BitVec 24

/-- A pixel record and the `rgba_out` word, fields r, g, b, a from the top (30_encoding.md R63). -/
abbrev Rgba32 := BitVec 32

/-- The due vector: bit 2 hue, bit 1 heartbeat, bit 0 frame (30_encoding.md R64). -/
abbrev Due3 := BitVec 3

/-- A time and a timer anchor: TIME_W = 32 bits (00_scope.md R6; log 15). -/
abbrev Time := BitVec 32

end Sys2Proof
end

