-- ==== Sys2Proof/Config.lean ====
section
/-! DEFINITION. What an implementation fixes (the configuration record of 00_scope.md R6, the constants of 40_color_transform.md R83 to R85) and what the environment may supply (10_state.md R33), with the free environment as an opaque constant. -/

namespace Sys2Proof

/-- SV_MODE: whether the saturation and value steps run (00_scope.md R6, 40_color_transform.md R100). -/
inductive SvMode where
  | general
  | bypass
deriving DecidableEq, Repr, Inhabited

/-- VS_ZERO: whether video-scale rounding adds 1 to a zero input (00_scope.md R6, 40_color_transform.md R96). -/
inductive VsZero where
  | lift
  | keep
deriving DecidableEq, Repr, Inhabited

/-- The configuration record (00_scope.md R6): constant for a block's lifetime, written by no operation (10_state.md R28).
The fields are naturals so that an illegal record can be written down: START answers it with CONFIG_ERROR (42_scheduler.md R131). -/
structure Configuration where
  huePeriod   : Nat
  hbPeriod    : Nat
  framePeriod : Nat
  n           : Nat
  nMax        : Nat
  step        : Nat
  satK        : Nat
  valK        : Nat
  svMode      : SvMode
  vsZero      : VsZero
deriving DecidableEq, Repr, Inhabited

/-- The environment's answer to a pin-configuration request (10_state.md R33). -/
inductive Ack where
  | ok
  | fail
deriving DecidableEq, Repr, Inhabited

/-- The status a PixelSink write returns, drawn and ignored (10_state.md R33, 42_scheduler.md R142). -/
inductive SinkStatus where
  | ok
  | error
deriving DecidableEq, Repr, Inhabited

/-- What the environment does next: the statements of the stimulus notation (30_encoding.md R72). -/
inductive Stimulus where
  /-- The reset event (70_reset_and_hazards.md R190). -/
  | rst
  /-- One step of the Scheduler, with the values it draws: `now`, `pin_ack(HB_PIN)`, `pin_ack(DATA_PIN)` and `sink_status`. -/
  | activate (now : Time) (ackHb ackData : Ack) (sink : SinkStatus)
  /-- A word driven on `hsv_in` (10_state.md R32). -/
  | hsvIn (w : Hsv24)
deriving DecidableEq, Repr, Inhabited

namespace Config

/-- HUE_DOMAIN (00_scope.md R6): the hue wheel has 256 positions, the 8-bit wrap (10_state.md R23). -/
def hueDomain : Nat := 256

/-- TIME_W, the width of `now` and of the anchors (00_scope.md R6; log 15). -/
def timeW : Nat := 32

/-- THIRD_K (40_color_transform.md R83). -/
def thirdK : Nat := 85

/-- TWOTHIRDS_K (40_color_transform.md R84). -/
def twothirdsK : Nat := 170

/-- K85, K170, K171 and K255 (40_color_transform.md R85). -/
def k85 : Nat := 85
/-- See `k85`. -/
def k170 : Nat := 170
/-- See `k85`. -/
def k171 : Nat := 171
/-- See `k85`. -/
def k255 : Nat := 255

/-- The source's reference configuration with its illustrative periods (95_test_vectors.md P1; 92_eei_decisions.md D20, D21).
DESIGN CHOICE (log 1, log 2; unsafe): the spec leaves these values OPEN; State.reset takes this record, and no statement about all states rests on it. -/
def reference : Configuration where
  huePeriod := 40
  hbPeriod := 512
  framePeriod := 20
  n := 10
  nMax := 10
  step := 25
  satK := 255
  valK := 255
  svMode := .general
  vsZero := .lift

/-- YIELD_MAX (00_scope.md R6, 92_eei_decisions.md D19): OPEN; no rule of the block reads it (log 15). -/
opaque yieldMax : Nat

/-- The free environment: the k-th stimulus, where State lists none (log 6). The environment chooses every draw "under no law" (00_scope.md R10). -/
opaque environment : Nat → Stimulus

end Config

end Sys2Proof
end

