-- ==== Sys2Proof/Machine/Operands.lean ====
section
/-! DEFINITION. Operand assembly (30_encoding.md R61, R62, R63, R67; 40_color_transform.md R82): the fields of an HSV24 word, the sub-fields of the hue byte, and the packing of a pixel record. -/

namespace Sys2Proof.Machine

/-- `h = hsv_in[23:16]` (30_encoding.md R67). -/
def fieldH (w : Hsv24) : Byte := w.extractLsb' 16 8

/-- `s = hsv_in[15:8]` (30_encoding.md R67). -/
def fieldS (w : Hsv24) : Byte := w.extractLsb' 8 8

/-- `v = hsv_in[7:0]` (30_encoding.md R67). -/
def fieldV (w : Hsv24) : Byte := w.extractLsb' 0 8

/-- `guard = h[7:5]`, the sextant number (30_encoding.md R62). -/
def hueGuard (h : Byte) : BitVec 3 := h.extractLsb' 5 3

/-- `offset = h[4:0]`, the position inside the sextant (30_encoding.md R62). -/
def hueOffset5 (h : Byte) : BitVec 5 := h.extractLsb' 0 5

/-- `offset8 = offset << 3` as an exact natural, 0, 8, ..., 248 (30_encoding.md R67, 40_color_transform.md R82). -/
def offset8 (o : BitVec 5) : Nat := o.toNat * 2 ^ 3

/-- The HSV24 word with the fields h, s, v (30_encoding.md R61). -/
def hsv24 (h s v : Byte) : Hsv24 := h ++ s ++ v

/-- The HSV24 word of sextant form `g`: the form's guard bits, then h[4:0], s and v (30_encoding.md R62, R68). For a hue whose
guard bits are `g` it is `hsv24 h s v`. -/
def formWord (g : BitVec 3) (h s v : Byte) : Hsv24 := g ++ hueOffset5 h ++ s ++ v

/-- The RGBA32 record with channels r, g, b, each taken `[7:0]`, and alpha 255 (30_encoding.md R63, 40_color_transform.md R99, R101). -/
def packRgba (r g b : Nat) : Rgba32 :=
  BitVec.ofNat 8 r ++ BitVec.ofNat 8 g ++ BitVec.ofNat 8 b ++ (255#8 : Byte)

/-- The channels of a record (30_encoding.md R63). -/
def channelR (p : Rgba32) : Byte := p.extractLsb' 24 8
/-- See `channelR`. -/
def channelG (p : Rgba32) : Byte := p.extractLsb' 16 8
/-- See `channelR`. -/
def channelB (p : Rgba32) : Byte := p.extractLsb' 8 8
/-- See `channelR`. -/
def channelA (p : Rgba32) : Byte := p.extractLsb' 0 8

/-- A saturation or value constant read as the 8-bit operand of the transform: a natural outside 0..255 is no operand, and a
model with a wider port must refuse it and compute no value (40_color_transform.md R104, 93_implementation_defined.md U1). -/
def svOperand (k : Nat) : Option Byte := if k ≤ 255 then some (BitVec.ofNat 8 k) else none

end Sys2Proof.Machine
end

