-- ==== Sys2Proof/Syntax.lean ====
section
/-! DEFINITION. The operations of 30_encoding.md R60, one constructor per row of spec/opcode_table.json. -/

namespace Sys2Proof

/-- The operation set (30_encoding.md R60). The sextant forms take the operands of their rules: the hue byte h, whose guard bits
are the form's number (checked by `wellFormed`), the saturation s and the value v. The other operations name no operand: they read
the state and the input ports (30_encoding.md R67). -/
inductive Instr where
  /-- 40_color_transform.md R86, red to orange. -/
  | hsv2rgbS0 (h s v : Byte)
  /-- 40_color_transform.md R87, orange to yellow. -/
  | hsv2rgbS1 (h s v : Byte)
  /-- 40_color_transform.md R88, yellow to green. -/
  | hsv2rgbS2 (h s v : Byte)
  /-- 40_color_transform.md R89, green to aqua. -/
  | hsv2rgbS3 (h s v : Byte)
  /-- 40_color_transform.md R90, aqua to blue. -/
  | hsv2rgbS4 (h s v : Byte)
  /-- 40_color_transform.md R91, blue to purple. -/
  | hsv2rgbS5 (h s v : Byte)
  /-- 40_color_transform.md R92, purple to pink. -/
  | hsv2rgbS6 (h s v : Byte)
  /-- 40_color_transform.md R93, pink to red. -/
  | hsv2rgbS7 (h s v : Byte)
  /-- 40_color_transform.md R99, the whole transform. -/
  | hsv2rgb (h s v : Byte)
  /-- 41_frame_generator.md R121. -/
  | fillRainbow
  /-- 42_scheduler.md R131. -/
  | start
  /-- 42_scheduler.md R135. -/
  | iterate
  /-- 42_scheduler.md R136. -/
  | hueAdvance
  /-- 42_scheduler.md R137. -/
  | hbToggle
  /-- 42_scheduler.md R138. -/
  | frameRender
  /-- 42_scheduler.md R139. -/
  | idleYield
deriving DecidableEq, Repr, Inhabited

end Sys2Proof
end

