-- ==== Sys2Proof/Decode.lean ====
section
/-! DEFINITION. Decoding (30_encoding.md R68, R69, R70): the sextant form of an HSV24 word, the actions of a DUE3 vector, and both formats read from bytes; then the encoder. -/

namespace Sys2Proof

open Sys2Proof.Machine

/-- Why a sequence of bytes is no instruction of the table. Rejecting is safe: the block has no such format (30_encoding.md R71). -/
inductive Reject where
  /-- No byte at all: START, ITERATE and FILL_RAINBOW have no selecting bits, the state selects them (30_encoding.md R69). -/
  | noSelectingBits
  /-- One byte whose bits 7:3 are not all 0: DUE3 has three bits (30_encoding.md R64). -/
  | due3HighBits (b : Byte)
  /-- Neither one byte (DUE3) nor three (HSV24): no such format exists (30_encoding.md R71). -/
  | noSuchFormat (bytes : Nat)
deriving DecidableEq, Repr

/-- The sextant form with guard `g` (the table of 30_encoding.md R68; its last row is 111). -/
def sextantForm (g : BitVec 3) (h s v : Byte) : Instr :=
  match g with
  | 0b000#3 => .hsv2rgbS0 h s v
  | 0b001#3 => .hsv2rgbS1 h s v
  | 0b010#3 => .hsv2rgbS2 h s v
  | 0b011#3 => .hsv2rgbS3 h s v
  | 0b100#3 => .hsv2rgbS4 h s v
  | 0b101#3 => .hsv2rgbS5 h s v
  | 0b110#3 => .hsv2rgbS6 h s v
  | _       => .hsv2rgbS7 h s v

/-- A decoder of `hsv_in` reads bits 23:21 and selects exactly one sextant form (30_encoding.md R68). Total (R70). -/
def decodeHsv24 (w : Hsv24) : Instr :=
  sextantForm (hueGuard (fieldH w)) (fieldH w) (fieldS w) (fieldV w)

/-- The action rows of the table as (match, mask, action), in the order the actions are performed (30_encoding.md R69). -/
def due3Rows : List (Due3 × Due3 × Instr) :=
  [ (0b100#3, 0b100#3, .hueAdvance),
    (0b010#3, 0b010#3, .hbToggle),
    (0b001#3, 0b001#3, .frameRender),
    (0b000#3, 0b111#3, .idleYield) ]

/-- Every row whose pattern matches is performed, in the order of the rows (30_encoding.md R69). -/
def decodeDue3 (d : Due3) : List Instr :=
  (due3Rows.filter fun row => decide (d &&& row.2.1 = row.1)).map fun row => row.2.2

/-- The formats read from bytes, the lowest-numbered bits first: three bytes are an HSV24 word, one byte is a DUE3 vector (its
first action; a vector with several bits set selects several, `decodeDue3`). -/
def decode : List Byte → Except Reject Instr
  | [] => .error .noSelectingBits
  | [b] =>
    if b.extractLsb' 3 5 = 0#5 then
      match decodeDue3 (b.extractLsb' 0 3) with
      | i :: _ => .ok i
      | [] => .error .noSelectingBits
    else .error (.due3HighBits b)
  | [b0, b1, b2] => .ok (decodeHsv24 (b2 ++ b1 ++ b0))
  | bs => .error (.noSuchFormat bs.length)

/-- The `k` lowest bytes of `w`, bits 7..0 first. -/
def bytesOf (k w : Nat) : List Byte :=
  (List.range k).map fun j => BitVec.ofNat 8 (w / 2 ^ (8 * j))

/-- The instruction the decoder reads from an instruction whose bits are `w`, bit 0 the least significant; `nbits` is how many
bits the table gives the row. A `w` with a bit above `nbits` is no instruction of that width. -/
def decodeTableWord (nbits w : Nat) : Option Instr :=
  if w < 2 ^ nbits then
    match decode (bytesOf ((nbits + 7) / 8) w) with
    | .ok i => some i
    | .error _ => none
  else none

/-- The three bytes of an HSV24 word, the lowest first. -/
def hsv24Bytes (w : Hsv24) : List Byte := [w.extractLsb' 0 8, w.extractLsb' 8 8, w.extractLsb' 16 8]

/-- The one byte of a DUE3 vector, its upper five bits 0. -/
def due3Bytes (d : Due3) : List Byte := [(0#5 : BitVec 5) ++ d]

/-- The bits that select an operation, from the encoding tables of 30_encoding.md R61, R62, R68 and R69. START, ITERATE and
FILL_RAINBOW have none (R69). -/
def encode : Instr → List Byte
  | .hsv2rgbS0 h s v => hsv24Bytes (formWord 0b000#3 h s v)
  | .hsv2rgbS1 h s v => hsv24Bytes (formWord 0b001#3 h s v)
  | .hsv2rgbS2 h s v => hsv24Bytes (formWord 0b010#3 h s v)
  | .hsv2rgbS3 h s v => hsv24Bytes (formWord 0b011#3 h s v)
  | .hsv2rgbS4 h s v => hsv24Bytes (formWord 0b100#3 h s v)
  | .hsv2rgbS5 h s v => hsv24Bytes (formWord 0b101#3 h s v)
  | .hsv2rgbS6 h s v => hsv24Bytes (formWord 0b110#3 h s v)
  | .hsv2rgbS7 h s v => hsv24Bytes (formWord 0b111#3 h s v)
  | .hsv2rgb h s v   => hsv24Bytes (hsv24 h s v)
  | .fillRainbow     => []
  | .start           => []
  | .iterate         => []
  | .hueAdvance      => due3Bytes 0b100#3
  | .hbToggle        => due3Bytes 0b010#3
  | .frameRender     => due3Bytes 0b001#3
  | .idleYield       => due3Bytes 0b000#3

end Sys2Proof
end

