-- ==== Sys2Proof/Machine/State.lean ====
section
/-! DEFINITION. The state of the go_rainbow CORE (10_state.md R20), its ports (10_state.md R32 to R34), what the model itself holds, the reasons a step can stop, and the state after reset (10_state.md R31). -/

namespace Sys2Proof.Machine

/-- The Scheduler's mode (10_state.md R20, 42_scheduler.md R130). -/
inductive Mode where
  | reset
  | running
  | halted
deriving DecidableEq, Repr, Inhabited

/-- The fault register's values (10_state.md R27). -/
inductive FaultCode where
  | none
  | configError
  | pinConfigError
deriving DecidableEq, Repr, Inhabited

/-- The level on the heartbeat output (10_state.md R25). -/
inductive PinLevel where
  | undriven
  | low
  | high
deriving DecidableEq, Repr, Inhabited

/-- The two pins (30_encoding.md R66). -/
inductive Pin where
  | hbPin
  | dataPin
deriving DecidableEq, Repr, Inhabited

/-- The level a PinLevel event carries (30_encoding.md R66). -/
inductive Level where
  | low
  | high
deriving DecidableEq, Repr, Inhabited

/-- The output events (10_state.md R34). -/
inductive Event where
  | pinConfig (p : Pin)
  | pinLevel (l : Level)
  | sinkWrite (seq : List Rgba32)
  | yield
deriving DecidableEq, Repr, Inhabited

/-- The pixel buffer `buf[0..N-1]` (20_memory.md R40) as (index, record) pairs, indices strictly rising; an index that is not
listed holds no value (10_state.md R31; log 4, log 5). Its operations and its canonical form are in Machine/Ops.lean. -/
abbrev Memory := List (Nat × Rgba32)

/-- Why a step stops with a fault. All are safe: the model stops where the spec defines no step. -/
inductive Fault where
  /-- Raised by `step` when the environment asks a HALTED Scheduler for a step: "In HALTED the agent has no step"
  (60_exceptions.md R166, 93_implementation_defined.md U2). Safe. -/
  | haltedNoStep
  /-- Raised by START outside mode RESET and by ITERATE outside mode RUNNING: `require c` means the agent has no such step
  (00_scope.md R10, 42_scheduler.md R131, R135). Safe. -/
  | noSuchStep
  /-- Raised by the sink transfer if an entry of the buffer holds no value (10_state.md R31). FRAME_RENDER writes every entry
  first, so no operation of the table raises it. Safe. -/
  | bufferNoValue
deriving DecidableEq, Repr

/-- Why a step is refused. Both are safe: no next state is given. -/
inductive Refusal where
  /-- Raised by `exec` for an instruction that has no meaning in the model. No arm of this model answers it. Safe. -/
  | notModelled (mnemonic : String)
  /-- Raised by FILL_RAINBOW and FRAME_RENDER when SAT_K or VAL_K lies outside 0..255: such an input is undefined, and a model
  must refuse it (40_color_transform.md R104, 93_implementation_defined.md U1; log 12). START never lets such a configuration run. Safe. -/
  | svOutOfRange
deriving DecidableEq, Repr

/-- The machine. The first nine fields after `cfg` are the spec's whole state (10_state.md R20); then its ports; then the model's
own fields. -/
structure State where
  /-- The configuration record (00_scope.md R6): the model's argument, written by no step (log 1). -/
  cfg         : Configuration
  mode        : Mode
  fault       : FaultCode
  hueOffset   : Byte
  heartbeatOn : Bool
  pinLevel    : PinLevel
  lastHue     : Time
  lastHb      : Time
  lastFrame   : Time
  buf         : Memory
  /-- The ColorTransform input port (10_state.md R32; log 8). -/
  hsvIn       : Hsv24
  /-- The ColorTransform output port (10_state.md R32; log 8). -/
  rgbaOut     : Rgba32
  /-- The time input (10_state.md R33; log 7). -/
  now         : Time
  /-- `pin_ack(HB_PIN)` (10_state.md R33; log 7). -/
  pinAckHb    : Ack
  /-- `pin_ack(DATA_PIN)` (10_state.md R33; log 7). -/
  pinAckData  : Ack
  /-- `sink_status` (10_state.md R33; log 7). -/
  sinkStatus  : SinkStatus
  /-- The output events since the last reset event, oldest first (10_state.md R34; log 9). -/
  events      : List Event
  /-- The model's own: the stimuli the environment has already decided on, next first (log 6). -/
  inputs      : List Stimulus
  /-- The model's own: how many stimuli have been taken (log 6). -/
  drawn       : Nat
deriving DecidableEq, Repr

/-- Right after power-on (70_reset_and_hazards.md R190, 10_state.md R31). `mode`, `fault`, `pinLevel` and the empty buffer are the
spec's; the other values are the model's, named in the log: `cfg` (1, 2), `hueOffset`, `heartbeatOn` and the anchors (3), the input
ports (7), `hsvIn` with the `rgbaOut` that R32 then gives (8), `events` (9), `inputs` and `drawn` (6). -/
def State.reset : State where
  cfg         := Config.reference
  mode        := .reset
  fault       := .none
  hueOffset   := 0#8
  heartbeatOn := false
  pinLevel    := .undriven
  lastHue     := 0#32
  lastHb      := 0#32
  lastFrame   := 0#32
  buf         := []
  hsvIn       := 0x000000#24
  rgbaOut     := 0x000000FF#32
  now         := 0#32
  pinAckHb    := .ok
  pinAckData  := .ok
  sinkStatus  := .ok
  events      := []
  inputs      := []
  drawn       := 0

end Sys2Proof.Machine
end

