-- ==== Sys2Proof/Machine/Flags.lean ====
section
/-! DEFINITION. The due vector. The block has no condition codes (10_state.md R24); what an iteration tests is DUE3, from the elapsed times, the due tests and the anchor updates of 42_scheduler.md R132 to R134. -/

namespace Sys2Proof.Machine

/-- `eX = (t - lastX) mod 2^TIME_W` (42_scheduler.md R132). -/
def elapsed (t last : Time) : Time := t - last

/-- Due exactly when `eX ≥ PERIOD_X` (42_scheduler.md R133). -/
def isDue (period : Nat) (e : Time) : Bool := decide (period ≤ e.toNat)

/-- `(lastX + PERIOD_X * (eX div PERIOD_X)) mod 2^TIME_W`, the product exact (42_scheduler.md R134). -/
def anchorAfter (last : Time) (period : Nat) (e : Time) : Time :=
  BitVec.ofNat 32 (last.toNat + period * (e.toNat / period))

/-- The elapsed times of the three triggers at the sampled time (42_scheduler.md R135). -/
def elapsedHue (s : State) : Time := elapsed s.now s.lastHue
/-- See `elapsedHue`. -/
def elapsedHb (s : State) : Time := elapsed s.now s.lastHb
/-- See `elapsedHue`. -/
def elapsedFrame (s : State) : Time := elapsed s.now s.lastFrame

/-- The three due tests, each against its own period (42_scheduler.md R133). -/
def dueHue (s : State) : Bool := isDue s.cfg.huePeriod (elapsedHue s)
/-- See `dueHue`. -/
def dueHb (s : State) : Bool := isDue s.cfg.hbPeriod (elapsedHb s)
/-- See `dueHue`. -/
def dueFrame (s : State) : Bool := isDue s.cfg.framePeriod (elapsedFrame s)

/-- DUE3: bit 2 hue, bit 1 heartbeat, bit 0 frame (30_encoding.md R64, 42_scheduler.md R135). -/
def dueVector (s : State) : Due3 :=
  BitVec.ofBool (dueHue s) ++ BitVec.ofBool (dueHb s) ++ BitVec.ofBool (dueFrame s)

/-- The anchor of the hue trigger moves to its grid point (42_scheduler.md R134, R135). -/
def fireHue (s : State) : State :=
  { s with lastHue := anchorAfter s.lastHue s.cfg.huePeriod (elapsedHue s) }

/-- The anchor of the heartbeat trigger moves to its grid point (42_scheduler.md R134, R135). -/
def fireHb (s : State) : State :=
  { s with lastHb := anchorAfter s.lastHb s.cfg.hbPeriod (elapsedHb s) }

/-- The anchor of the frame trigger moves to its grid point (42_scheduler.md R134, R135). -/
def fireFrame (s : State) : State :=
  { s with lastFrame := anchorAfter s.lastFrame s.cfg.framePeriod (elapsedFrame s) }

end Sys2Proof.Machine
end

