-- ==== Sys2Proof/Machine/Ops.lean ====
section
/-! DEFINITION. The named operations over the buffer, the ports, the events and the environment's stimuli; raising a fault, and the reset event, which is the only way out of one. -/

namespace Sys2Proof.Machine

/-! ### The pixel buffer (20_memory.md R40 to R42) -/

/-- `MemRead(i, 1)`: the record at index i, or none where the entry holds no value (00_scope.md R10, 10_state.md R31). -/
def Memory.read : Memory → Nat → Option Rgba32
  | [], _ => none
  | (j, p) :: m, i => if j = i then some p else Memory.read m i

/-- `MemWrite(i, 1, p)`: one whole record at one index (20_memory.md R41), keeping the indices rising. -/
def Memory.write : Memory → Nat → Rgba32 → Memory
  | [], i, p => [(i, p)]
  | (j, q) :: m, i, p =>
    if i < j then (i, p) :: (j, q) :: m
    else if i = j then (i, p) :: m
    else (j, q) :: Memory.write m i p

/-- The indices of the list rise strictly from `lo` on. -/
def Memory.rising : Nat → Memory → Bool
  | _, [] => true
  | lo, (j, _) :: m => decide (lo ≤ j) && Memory.rising (j + 1) m

/-- The canonical form of a buffer of `n` entries: indices strictly rising, each below `n` (20_memory.md R47). -/
def Memory.wf (n : Nat) (m : Memory) : Bool :=
  Memory.rising 0 m && m.all fun c => decide (c.1 < n)

/-- The records of the listed indices in that order, or none if one of them holds no value. -/
def Memory.readEach (m : Memory) : List Nat → Option (List Rgba32)
  | [] => some []
  | i :: is =>
    match Memory.read m i, Memory.readEach m is with
    | some p, some ps => some (p :: ps)
    | _, _ => none

/-- Every index 0..n-1 in ascending order, as the sink transfer reads them (20_memory.md R42). -/
def Memory.readAll (n : Nat) (m : Memory) : Option (List Rgba32) := Memory.readEach m (List.range n)

/-! ### Outcomes -/

/-- Go on from a next state; a fault or a refusal stands. -/
def andThen (o : Host.Outcome State Fault Refusal) (f : State → Host.Outcome State Fault Refusal) :
    Host.Outcome State Fault Refusal :=
  match o with
  | .next s => f s
  | .fault r => .fault r
  | .refused r => .refused r

/-! ### Events and ports -/

/-- `emit E` (00_scope.md R10): the event goes to the environment after those before it. -/
def emit (e : Event) (s : State) : State := { s with events := s.events ++ [e] }

/-- The ColorTransform ports: `hsv_in` carries `w` and `rgba_out` answers `p` (10_state.md R32). -/
def drivePorts (w : Hsv24) (p : Rgba32) (s : State) : State := { s with hsvIn := w, rgbaOut := p }

/-- The input ports carry the values a Scheduler step draws (10_state.md R33). -/
def present (now : Time) (ackHb ackData : Ack) (sink : SinkStatus) (s : State) : State :=
  { s with now := now, pinAckHb := ackHb, pinAckData := ackData, sinkStatus := sink }

/-- Replace the contents of the buffer. -/
def setBuf (m : Memory) (s : State) : State := { s with buf := m }

/-! ### Faults and reset -/

/-- The numeric code of a fault register value (10_state.md R27). -/
def FaultCode.code : FaultCode → Nat
  | .none => 0
  | .configError => 1
  | .pinConfigError => 2

/-- Fault entry, `raise F(info)` (60_exceptions.md R166): the code is recorded and the mode becomes HALTED; nothing else is
saved, and there is no vector, handler or stack. -/
def raiseFault (f : FaultCode) (s : State) : State := { s with fault := f, mode := .halted }

/-- The reset event (70_reset_and_hazards.md R190), the only way out of HALTED (60_exceptions.md R167): mode RESET, fault NONE,
pinLevel UNDRIVEN; the buffer holds no value; the other elements take the values the log names (3, 10). The configuration record,
the ports and the environment's stimuli are not touched; the record of events starts anew (9). -/
def resetEvent (s : State) : State :=
  { s with
    mode := .reset, fault := .none, pinLevel := .undriven
    hueOffset := 0#8, heartbeatOn := false
    lastHue := 0#32, lastHb := 0#32, lastFrame := 0#32
    buf := [], events := [] }

/-! ### The environment's stimuli (log 6) -/

/-- What the environment does next: the head of the list it has decided on, else a free stimulus. -/
def nextStimulus (s : State) : Stimulus :=
  match s.inputs with
  | x :: _ => x
  | [] => Config.environment s.drawn

/-- The state after that stimulus has been taken. -/
def consume (s : State) : State := { s with inputs := s.inputs.tail, drawn := s.drawn + 1 }

/-- The same state with `x` as the environment's next stimulus. -/
def pushStimulus (x : Stimulus) (s : State) : State := { s with inputs := x :: s.inputs }

end Sys2Proof.Machine
end

