-- ==== Sys2Proof/Machine/ColorTransform.lean ====
section
/-! DEFINITION. The ColorTransform unit (40_color_transform.md): the ramps, the eight sextant forms, the saturation and value steps, and the meanings of HSV2RGB.S0 to HSV2RGB.S7 and HSV2RGB. All arithmetic is exact on naturals (00_scope.md R9). -/

namespace Sys2Proof.Machine

/-- A triple of channels between two stages, before it is packed into a record. -/
structure Rgb where
  r : Nat
  g : Nat
  b : Nat
deriving DecidableEq, Repr

/-! ### The ramps (40_color_transform.md R83, R84) -/

/-- `third = (offset8 * THIRD_K) >> 8`. -/
def third (o : BitVec 5) : Nat := offset8 o * Config.thirdK / 2 ^ 8

/-- `twothirds = (offset8 * TWOTHIRDS_K) >> 8`. -/
def twothirds (o : BitVec 5) : Nat := offset8 o * Config.twothirdsK / 2 ^ 8

/-! ### The sextant forms (40_color_transform.md R86 to R93; log 16). No subtraction goes below 0 (R94). -/

/-- R86, red to orange. -/
def rawS0 (o : BitVec 5) : Rgb := ⟨Config.k255 - third o, third o, 0⟩
/-- R87, orange to yellow. -/
def rawS1 (o : BitVec 5) : Rgb := ⟨Config.k171, Config.k85 + third o, 0⟩
/-- R88, yellow to green. -/
def rawS2 (o : BitVec 5) : Rgb := ⟨Config.k171 - twothirds o, Config.k170 + third o, 0⟩
/-- R89, green to aqua. -/
def rawS3 (o : BitVec 5) : Rgb := ⟨0, Config.k255 - third o, third o⟩
/-- R90, aqua to blue. -/
def rawS4 (o : BitVec 5) : Rgb := ⟨0, Config.k171 - twothirds o, Config.k85 + twothirds o⟩
/-- R91, blue to purple. -/
def rawS5 (o : BitVec 5) : Rgb := ⟨third o, 0, Config.k255 - third o⟩
/-- R92, purple to pink. -/
def rawS6 (o : BitVec 5) : Rgb := ⟨Config.k85 + third o, 0, Config.k171 - third o⟩
/-- R93, pink to red. -/
def rawS7 (o : BitVec 5) : Rgb := ⟨Config.k170 + third o, 0, Config.k85 - third o⟩

/-- The raw triple of a hue: the form of its guard bits applied to its offset (40_color_transform.md R82, 30_encoding.md R68). -/
def rawOf (h : Byte) : Rgb :=
  match hueGuard h with
  | 0b000#3 => rawS0 (hueOffset5 h)
  | 0b001#3 => rawS1 (hueOffset5 h)
  | 0b010#3 => rawS2 (hueOffset5 h)
  | 0b011#3 => rawS3 (hueOffset5 h)
  | 0b100#3 => rawS4 (hueOffset5 h)
  | 0b101#3 => rawS5 (hueOffset5 h)
  | 0b110#3 => rawS6 (hueOffset5 h)
  | _       => rawS7 (hueOffset5 h)

/-! ### Saturation and value (40_color_transform.md R95 to R98) -/

/-- `scale8(x, f) = (x * f) >> 8` (R95). -/
def scale8 (x f : Nat) : Nat := x * f / 2 ^ 8

/-- The increment of video-scale rounding (R96). -/
def vscaleInc (z : VsZero) (x f : Nat) : Nat :=
  if f ≠ 0 ∧ f ≠ 255 ∧ (z = .lift ∨ x ≠ 0) then 1 else 0

/-- Video-scale rounding (R96). -/
def vscale (z : VsZero) (x f : Nat) : Nat := scale8 x f + vscaleInc z x f

/-- The saturation step on one channel (R97, R105). -/
def satChannel (z : VsZero) (s c : Nat) : Nat :=
  if s = 255 then c
  else if s = 0 then 255
  else vscale z c s + (255 - s)

/-- The value step on one channel (R98, R105). -/
def valChannel (z : VsZero) (v c : Nat) : Nat :=
  if v = 255 then c
  else if v = 0 then 0
  else vscale z c v

/-- The same function on each channel: no lane reads another (R105). -/
def Rgb.mapChannels (f : Nat → Nat) (c : Rgb) : Rgb := ⟨f c.r, f c.g, f c.b⟩

/-- The saturation step (R97). -/
def satStep (z : VsZero) (s : Nat) (c : Rgb) : Rgb := c.mapChannels (satChannel z s)

/-- The value step (R98). -/
def valStep (z : VsZero) (v : Nat) (c : Rgb) : Rgb := c.mapChannels (valChannel z v)

/-! ### The whole operation (40_color_transform.md R99, R100) -/

/-- The triple that is packed: after both steps under GENERAL, the raw triple under BYPASS. -/
def finishTriple (cfg : Configuration) (raw : Rgb) (s v : Byte) : Rgb :=
  match cfg.svMode with
  | .general => valStep cfg.vsZero v.toNat (satStep cfg.vsZero s.toNat raw)
  | .bypass => raw

/-- The record of a raw triple (R99). -/
def finish (cfg : Configuration) (raw : Rgb) (s v : Byte) : Rgba32 :=
  packRgba (finishTriple cfg raw s v).r (finishTriple cfg raw s v).g (finishTriple cfg raw s v).b

/-- `hsvToRgb(h, s, v)` (R99): a pure, total function (R80). -/
def hsvToRgb (cfg : Configuration) (h s v : Byte) : Rgba32 := finish cfg (rawOf h) s v

/-! ### The meanings. A form drives its word on `hsv_in` and `rgba_out` answers (10_state.md R32); the unit has no other state, and
it answers in every mode (log 22). -/

/-- HSV2RGB.S0 (R86, R99). -/
def execHsv2rgbS0 (h s v : Byte) (st : State) : Host.Outcome State Fault Refusal :=
  .next (drivePorts (formWord 0b000#3 h s v) (finish st.cfg (rawS0 (hueOffset5 h)) s v) st)

/-- HSV2RGB.S1 (R87, R99). -/
def execHsv2rgbS1 (h s v : Byte) (st : State) : Host.Outcome State Fault Refusal :=
  .next (drivePorts (formWord 0b001#3 h s v) (finish st.cfg (rawS1 (hueOffset5 h)) s v) st)

/-- HSV2RGB.S2 (R88, R99). -/
def execHsv2rgbS2 (h s v : Byte) (st : State) : Host.Outcome State Fault Refusal :=
  .next (drivePorts (formWord 0b010#3 h s v) (finish st.cfg (rawS2 (hueOffset5 h)) s v) st)

/-- HSV2RGB.S3 (R89, R99). -/
def execHsv2rgbS3 (h s v : Byte) (st : State) : Host.Outcome State Fault Refusal :=
  .next (drivePorts (formWord 0b011#3 h s v) (finish st.cfg (rawS3 (hueOffset5 h)) s v) st)

/-- HSV2RGB.S4 (R90, R99). -/
def execHsv2rgbS4 (h s v : Byte) (st : State) : Host.Outcome State Fault Refusal :=
  .next (drivePorts (formWord 0b100#3 h s v) (finish st.cfg (rawS4 (hueOffset5 h)) s v) st)

/-- HSV2RGB.S5 (R91, R99). -/
def execHsv2rgbS5 (h s v : Byte) (st : State) : Host.Outcome State Fault Refusal :=
  .next (drivePorts (formWord 0b101#3 h s v) (finish st.cfg (rawS5 (hueOffset5 h)) s v) st)

/-- HSV2RGB.S6 (R92, R99). -/
def execHsv2rgbS6 (h s v : Byte) (st : State) : Host.Outcome State Fault Refusal :=
  .next (drivePorts (formWord 0b110#3 h s v) (finish st.cfg (rawS6 (hueOffset5 h)) s v) st)

/-- HSV2RGB.S7 (R93, R99). -/
def execHsv2rgbS7 (h s v : Byte) (st : State) : Host.Outcome State Fault Refusal :=
  .next (drivePorts (formWord 0b111#3 h s v) (finish st.cfg (rawS7 (hueOffset5 h)) s v) st)

/-- HSV2RGB (R99): the form is chosen by h[7:5]. -/
def execHsv2rgb (h s v : Byte) (st : State) : Host.Outcome State Fault Refusal :=
  .next (drivePorts (hsv24 h s v) (hsvToRgb st.cfg h s v) st)

end Sys2Proof.Machine
end

