-- ==== Sys2Proof/Machine/FrameGenerator.lean ====
section
/-! DEFINITION. The FrameGenerator (41_frame_generator.md): FILL_RAINBOW. -/

namespace Sys2Proof.Machine

/-- `hue_i = (off + STEP * i) mod 256`, the sum exact (41_frame_generator.md R121). -/
def hueAt (off : Byte) (step i : Nat) : Byte := BitVec.ofNat 8 (off.toNat + step * i)

/-- The record of pixel i (41_frame_generator.md R121). -/
def pixelAt (cfg : Configuration) (off sat val : Byte) (i : Nat) : Rgba32 :=
  hsvToRgb cfg (hueAt off cfg.step i) sat val

/-- The writes of one fill: every index 0..N-1 once, ascending (41_frame_generator.md R121, R122). -/
def fillMemory (cfg : Configuration) (off sat val : Byte) (m : Memory) : Memory :=
  (List.range cfg.n).foldl (fun m i => Memory.write m i (pixelAt cfg off sat val i)) m

/-- fillRainbow (41_frame_generator.md R120, R121): it reads hueOffset, STEP, SAT_K, VAL_K and N, writes the buffer and nothing
else, and emits no event. A constant that is no 8-bit operand is refused (40_color_transform.md R104; log 12). -/
def fillRainbow (s : State) : Host.Outcome State Fault Refusal :=
  match svOperand s.cfg.satK, svOperand s.cfg.valK with
  | some sat, some val => .next (setBuf (fillMemory s.cfg s.hueOffset sat val s.buf) s)
  | _, _ => .refused .svOutOfRange

/-- FILL_RAINBOW (41_frame_generator.md R121). -/
def execFillRainbow (s : State) : Host.Outcome State Fault Refusal := fillRainbow s

end Sys2Proof.Machine
end

