-- ==== Sys2Proof/Machine/Scheduler.lean ====
section
/-! DEFINITION. The PeriodicScheduler (42_scheduler.md): START, ITERATE and its four actions. -/

namespace Sys2Proof.Machine

/-! ### The actions as operations on the state -/

/-- `hueOffset <- (hueOffset + 1) mod 256` (42_scheduler.md R136; the modulus is HUE_DOMAIN, 90_conflicts.md C5). -/
def advanceHue (s : State) : State :=
  { s with hueOffset := BitVec.ofNat 8 ((s.hueOffset.toNat + 1) % Config.hueDomain) }

/-- Flip `heartbeatOn`, drive the pin and emit the level: true is HIGH (42_scheduler.md R137). -/
def toggleHeartbeat (s : State) : State :=
  match s.heartbeatOn with
  | false => emit (.pinLevel .high) { s with heartbeatOn := true, pinLevel := .high }
  | true => emit (.pinLevel .low) { s with heartbeatOn := false, pinLevel := .low }

/-- Hand the buffer to the PixelSink: one SinkWrite with every record in index order, a snapshot (20_memory.md R42, R45). The
sink's status is drawn and ignored (42_scheduler.md R142). -/
def transferFrame (s : State) : Host.Outcome State Fault Refusal :=
  match Memory.readAll s.cfg.n s.buf with
  | some seq => .next (emit (.sinkWrite seq) s)
  | none => .fault .bufferNoValue

/-- Fill, then transfer (42_scheduler.md R138). -/
def renderFrame (s : State) : Host.Outcome State Fault Refusal := andThen (fillRainbow s) transferFrame

/-- `emit Yield` (42_scheduler.md R139). -/
def yieldIdle (s : State) : State := emit .yield s

/-! ### START -/

/-- CONFIG_VALID (42_scheduler.md R131). SV_MODE and VS_ZERO are legal by their types. -/
def configValid (c : Configuration) : Bool :=
  decide ((1 ≤ c.huePeriod ∧ c.huePeriod ≤ 2 ^ (Config.timeW - 1)) ∧
    (1 ≤ c.hbPeriod ∧ c.hbPeriod ≤ 2 ^ (Config.timeW - 1)) ∧
    (1 ≤ c.framePeriod ∧ c.framePeriod ≤ 2 ^ (Config.timeW - 1)) ∧
    (1 ≤ c.n ∧ c.n ≤ c.nMax) ∧ c.satK ≤ 255 ∧ c.valK ≤ 255 ∧ 2 ≤ Config.timeW)

/-- The writes of a START that raises no fault: offset 0, heartbeat off, the three anchors at the sampled time, mode RUNNING
(42_scheduler.md R131). -/
def enterRunning (s : State) : State :=
  { s with
    hueOffset := 0#8, heartbeatOn := false
    lastHue := s.now, lastHb := s.now, lastFrame := s.now
    mode := .running }

/-- The second half of START: the strip data pin, then the initial values (42_scheduler.md R131). -/
def configureDataPin (s : State) : State :=
  let s := emit (.pinConfig .dataPin) s
  match s.pinAckData with
  | .fail => raiseFault .pinConfigError s
  | .ok => enterRunning s

/-- The pin requests of START: the heartbeat pin first (42_scheduler.md R131, 60_exceptions.md R164). -/
def configurePins (s : State) : State :=
  let s := emit (.pinConfig .hbPin) s
  match s.pinAckHb with
  | .fail => raiseFault .pinConfigError s
  | .ok => configureDataPin s

/-- START (42_scheduler.md R131): the configuration is checked before any pin request. -/
def execStart (s : State) : Host.Outcome State Fault Refusal :=
  if s.mode = .reset then
    if configValid s.cfg then .next (configurePins s)
    else .next (raiseFault .configError s)
  else .fault .noSuchStep

/-! ### ITERATE -/

/-- The hue part of an iteration: the anchor, then the action, when the due bit is set (42_scheduler.md R135). -/
def iterateHue (due : Due3) (s : State) : State :=
  if due.getLsbD 2 then advanceHue (fireHue s) else s

/-- The heartbeat part of an iteration (42_scheduler.md R135). -/
def iterateHb (due : Due3) (s : State) : State :=
  if due.getLsbD 1 then toggleHeartbeat (fireHb s) else s

/-- The frame part of an iteration, and the yield when nothing is due (42_scheduler.md R135). -/
def iterateFrame (due : Due3) (s : State) : Host.Outcome State Fault Refusal :=
  if due.getLsbD 0 then renderFrame (fireFrame s)
  else if due = 0b000#3 then .next (yieldIdle s)
  else .next s

/-- ITERATE (42_scheduler.md R135): the due vector is formed once, from the anchors as they were at the start; the due actions
run in the order hue, heartbeat, frame (R140). No action moves another trigger's anchor or the sampled time, so each part reads the
elapsed time it had at the start. -/
def execIterate (s : State) : Host.Outcome State Fault Refusal :=
  if s.mode = .running then
    iterateFrame (dueVector s) (iterateHb (dueVector s) (iterateHue (dueVector s) s))
  else .fault .noSuchStep

/-! ### The actions as meanings -/

/-- HUE_ADVANCE (42_scheduler.md R136). -/
def execHueAdvance (s : State) : Host.Outcome State Fault Refusal := .next (advanceHue s)

/-- HB_TOGGLE (42_scheduler.md R137). -/
def execHbToggle (s : State) : Host.Outcome State Fault Refusal := .next (toggleHeartbeat s)

/-- FRAME_RENDER (42_scheduler.md R138). -/
def execFrameRender (s : State) : Host.Outcome State Fault Refusal := renderFrame s

/-- IDLE_YIELD (42_scheduler.md R139). -/
def execIdleYield (s : State) : Host.Outcome State Fault Refusal := .next (yieldIdle s)

end Sys2Proof.Machine
end

