-- ==== Sys2Proof/Machine/Dispatch.lean ====
section
/-! DEFINITION. One arm per operation of 30_encoding.md R60, each one direct call of its meaning. -/

namespace Sys2Proof.Machine

def exec (i : Instr) (s : State) : Host.Outcome State Fault Refusal :=
  match i with
  | .hsv2rgbS0 h sat v => Sys2Proof.Machine.execHsv2rgbS0 h sat v s
  | .hsv2rgbS1 h sat v => Sys2Proof.Machine.execHsv2rgbS1 h sat v s
  | .hsv2rgbS2 h sat v => Sys2Proof.Machine.execHsv2rgbS2 h sat v s
  | .hsv2rgbS3 h sat v => Sys2Proof.Machine.execHsv2rgbS3 h sat v s
  | .hsv2rgbS4 h sat v => Sys2Proof.Machine.execHsv2rgbS4 h sat v s
  | .hsv2rgbS5 h sat v => Sys2Proof.Machine.execHsv2rgbS5 h sat v s
  | .hsv2rgbS6 h sat v => Sys2Proof.Machine.execHsv2rgbS6 h sat v s
  | .hsv2rgbS7 h sat v => Sys2Proof.Machine.execHsv2rgbS7 h sat v s
  | .hsv2rgb h sat v => Sys2Proof.Machine.execHsv2rgb h sat v s
  | .fillRainbow => Sys2Proof.Machine.execFillRainbow s
  | .start => Sys2Proof.Machine.execStart s
  | .iterate => Sys2Proof.Machine.execIterate s
  | .hueAdvance => Sys2Proof.Machine.execHueAdvance s
  | .hbToggle => Sys2Proof.Machine.execHbToggle s
  | .frameRender => Sys2Proof.Machine.execFrameRender s
  | .idleYield => Sys2Proof.Machine.execIdleYield s

end Sys2Proof.Machine
end

