-- ==== Sys2Proof/Machine/Fetch.lean ====
section
/-! DEFINITION. What selects the next operation (30_encoding.md R60). The block fetches no instruction (10_state.md R22): the mode selects START and ITERATE, DUE3 selects the actions, and bits 23:21 of `hsv_in` select a sextant form. -/

namespace Sys2Proof.Machine

/-- The operation the mode selects for a Scheduler step; HALTED selects none (30_encoding.md R60). -/
def selectByMode : Mode → Option Instr
  | .reset => some .start
  | .running => some .iterate
  | .halted => none

/-- A Scheduler step whose draws are all "ok" and whose `now` is the present one. -/
def plainActivation (s : State) : Stimulus := .activate s.now .ok .ok .ok

/-- A word driven on `hsv_in` as the environment's next stimulus (log 14). -/
def placeHsv24 (w : Hsv24) (s : State) : State := pushStimulus (.hsvIn w) s

/-- An anchor that makes a trigger due, or not due, at the time `t`: one period before `t`, or `t` itself. -/
def anchorFor (due : Bool) (period : Nat) (t : Time) : Time :=
  if due then t - BitVec.ofNat 32 period else t

/-- A running Scheduler whose next iteration forms the due vector `d`: DUE3 is internal and no port carries it
(30_encoding.md R64), so the anchors are placed for it (log 14). -/
def placeDue3 (d : Due3) (s : State) : State :=
  pushStimulus (plainActivation s)
    { s with
      mode := .running
      lastHue := anchorFor (d.getLsbD 2) s.cfg.huePeriod s.now
      lastHb := anchorFor (d.getLsbD 1) s.cfg.hbPeriod s.now
      lastFrame := anchorFor (d.getLsbD 0) s.cfg.framePeriod s.now }

/-- An operation with no selecting bits: the Scheduler takes its next step, START in RESET and ITERATE in RUNNING (log 14). -/
def placeActivation (s : State) : State := pushStimulus (plainActivation s) s

end Sys2Proof.Machine
end

