-- ==== Sys2Proof/Machine/Step.lean ====
section
/-! DEFINITION. One step of the machine: the environment's next stimulus is taken, and the operation it selects is executed (30_encoding.md R60, R72). -/

namespace Sys2Proof.Machine

/-- A Scheduler step: the operation the mode selects, or no step in HALTED (42_scheduler.md R130, 60_exceptions.md R166). -/
def scheduleStep (s : State) : Host.Outcome State Fault Refusal :=
  match selectByMode s.mode with
  | some i => exec i s
  | none => .fault .haltedNoStep

/-- Steps are atomic; a reset event comes between two of them (00_scope.md R4, 60_exceptions.md R164). -/
def step (s : State) : Host.Outcome State Fault Refusal :=
  match nextStimulus s with
  | .rst => .next (resetEvent (consume s))
  | .activate now ackHb ackData sink => scheduleStep (present now ackHb ackData sink (consume s))
  | .hsvIn w => exec (decodeHsv24 w) (consume s)

/-- `s` with the instruction whose `nbits` bits are `w` as the next one the step runs (log 14): no bits, the Scheduler's own next
step; up to one byte, a DUE3 vector; more, a word on `hsv_in`. -/
def State.withFetchWord (s : State) (nbits w : Nat) : State :=
  if nbits = 0 then placeActivation s
  else if nbits ≤ 8 then placeDue3 (BitVec.ofNat 3 w) s
  else placeHsv24 (BitVec.ofNat 24 w) s

end Sys2Proof.Machine
end

