-- ==== Sys2Proof/Safety.lean ====
section
/-! DEFINITION. The terms claims are stated in: the invariant of every state a block can be in, and runs of Scheduler steps under the environment's draws. -/

namespace Sys2Proof.Machine

/-! ### The heartbeat's history -/

/-- The levels of the PinLevel events, in order. -/
def pinLevels : List Event → List Level
  | [] => []
  | .pinLevel l :: es => l :: pinLevels es
  | _ :: es => pinLevels es

/-- The level of the k-th PinLevel event, counting from 0: HIGH, LOW, HIGH, ... (42_scheduler.md R144). -/
def levelAt (k : Nat) : Level := if k % 2 = 0 then .high else .low

/-- The first `k` levels of the strict alternation that starts with HIGH (42_scheduler.md R144). -/
def alternation (k : Nat) : List Level := (List.range k).map levelAt

/-- The pin's level after `k` PinLevel events: UNDRIVEN before the first (10_state.md R25, 42_scheduler.md R144). -/
def pinAfter : Nat → PinLevel
  | 0 => .undriven
  | k + 1 => if k % 2 = 0 then .high else .low

/-- The sequences of the SinkWrite events, in order. -/
def sinkFrames : List Event → List (List Rgba32)
  | [] => []
  | .sinkWrite seq :: es => seq :: sinkFrames es
  | _ :: es => sinkFrames es

/-! ### The invariant -/

/-- A SinkWrite carries exactly `n` records (30_encoding.md R65), each with alpha 255 (40_color_transform.md R101). -/
def frameEvent (n : Nat) : Event → Bool
  | .sinkWrite seq => decide (seq.length = n) && seq.all fun p => decide (channelA p = 255#8)
  | _ => true

/-- The buffer keeps its canonical form, inside 0..N-1 (20_memory.md R40, R47). -/
def BufferInv (s : State) : Prop := Memory.wf s.cfg.n s.buf = true

/-- `rgba_out` is `hsvToRgb` of `hsv_in` (10_state.md R32). -/
def PortInv (s : State) : Prop :=
  s.rgbaOut = hsvToRgb s.cfg (fieldH s.hsvIn) (fieldS s.hsvIn) (fieldV s.hsvIn)

/-- A fault is recorded exactly in HALTED (60_exceptions.md R166, R167), and RUNNING is entered only with a legal configuration
(42_scheduler.md R131). -/
def ModeInv (s : State) : Prop :=
  (s.mode = .halted ↔ s.fault ≠ .none) ∧ (s.mode = .running → configValid s.cfg = true)

/-- The PinLevel events since the last reset alternate, HIGH first; the pin shows the last of them, or UNDRIVEN; in RUNNING
`heartbeatOn` says whether their number is odd; outside RUNNING there are none (42_scheduler.md R144, 60_exceptions.md R166). -/
def HeartbeatInv (s : State) : Prop :=
  pinLevels s.events = alternation (pinLevels s.events).length ∧
  s.pinLevel = pinAfter (pinLevels s.events).length ∧
  (s.mode = .running → s.heartbeatOn = decide ((pinLevels s.events).length % 2 = 1)) ∧
  (s.mode ≠ .running → pinLevels s.events = [])

/-- Every SinkWrite since the last reset is a whole frame of opaque records. -/
def FrameInv (s : State) : Prop := s.events.all (frameEvent s.cfg.n) = true

/-- What holds of every state a block can be in. -/
def Inv (s : State) : Prop :=
  BufferInv s ∧ PortInv s ∧ ModeInv s ∧ HeartbeatInv s ∧ FrameInv s

/-! ### Sequences of operations -/

/-- The operations of a list, one after another. -/
def runActions : List Instr → State → Host.Outcome State Fault Refusal
  | [], s => .next s
  | i :: is, s => andThen (exec i s) (runActions is)

/-- The actions of ITERATE (30_encoding.md R60). -/
def isAction : Instr → Bool
  | .hueAdvance | .hbToggle | .frameRender | .idleYield => true
  | _ => false

/-- The anchors of the triggers that are due in `d`, moved to their grid points (42_scheduler.md R134, R135). -/
def moveAnchors (d : Due3) (s : State) : State :=
  { s with
    lastHue := if d.getLsbD 2 then anchorAfter s.lastHue s.cfg.huePeriod (elapsedHue s) else s.lastHue
    lastHb := if d.getLsbD 1 then anchorAfter s.lastHb s.cfg.hbPeriod (elapsedHb s) else s.lastHb
    lastFrame := if d.getLsbD 0 then anchorAfter s.lastFrame s.cfg.framePeriod (elapsedFrame s) else s.lastFrame }

/-- The records of one frame in index order: N pixels whose hues start at `off` (41_frame_generator.md R121, 30_encoding.md R65). -/
def frameRecords (cfg : Configuration) (off : Byte) : List Rgba32 :=
  (List.range cfg.n).map fun i =>
    hsvToRgb cfg (BitVec.ofNat 8 (off.toNat + cfg.step * i)) (BitVec.ofNat 8 cfg.satK) (BitVec.ofNat 8 cfg.valK)

/-- SAT_K and VAL_K are legal (00_scope.md R6). -/
def svLegal (c : Configuration) : Prop := c.satK ≤ 255 ∧ c.valK ≤ 255

/-- The same state but for the elements that hold no value after reset (10_state.md R31). -/
def SameButUnspecified (s t : State) : Prop :=
  t = { s with
    hueOffset := t.hueOffset, heartbeatOn := t.heartbeatOn
    lastHue := t.lastHue, lastHb := t.lastHb, lastFrame := t.lastFrame, buf := t.buf }

/-! ### Runs of Scheduler steps -/

/-- The draws of one Scheduler step (10_state.md R33). -/
structure Draws where
  now     : Time
  ackHb   : Ack
  ackData : Ack
  sink    : SinkStatus
deriving DecidableEq, Repr

/-- The stimulus that asks the Scheduler for a step with these draws. -/
def Draws.stimulus (d : Draws) : Stimulus := .activate d.now d.ackHb d.ackData d.sink

/-- `s` with Scheduler steps of the given draws as the environment's next stimuli. -/
def State.withDraws (s : State) (ds : List Draws) : State :=
  { s with inputs := ds.map Draws.stimulus ++ s.inputs }

/-- The draws of one ITERATE at the true time `t`: `now` is its value modulo 2^TIME_W (42_scheduler.md R132, R143). -/
def drawsAt (t : Nat) : Draws := ⟨BitVec.ofNat 32 t, .ok, .ok, .ok⟩

/-- The true times of consecutive steps: from `t` on, no step goes backwards and no gap exceeds `g`
(duties (a) and (b), 70_reset_and_hazards.md R194). -/
def gapsWithin (g : Nat) : Nat → List Nat → Prop
  | _, [] => True
  | t, t' :: ts => t ≤ t' ∧ t' - t ≤ g ∧ gapsWithin g t' ts

/-- The last of the times, `t` if there is none. -/
def lastTime : Nat → List Nat → Nat
  | t, [] => t
  | _, t' :: ts => lastTime t' ts

/-- How many periods `p` have passed between `t0` and `t` (42_scheduler.md R143). -/
def periodsPassed (t0 p t : Nat) : Nat := (t - t0) / p

/-- The anchor of a trigger with period `p` that was started at `t0`, after an iteration at the true time `t`
(42_scheduler.md R143, item 1). -/
def gridAnchor (t0 p t : Nat) : Time := BitVec.ofNat 32 (t0 + p * periodsPassed t0 p t)

/-- The three anchors stand on their grids at the true time `t`. -/
def OnGrid (t0 t : Nat) (s : State) : Prop :=
  s.lastHue = gridAnchor t0 s.cfg.huePeriod t ∧
  s.lastHb = gridAnchor t0 s.cfg.hbPeriod t ∧
  s.lastFrame = gridAnchor t0 s.cfg.framePeriod t

/-- The longest of the three periods (70_reset_and_hazards.md R194). -/
def maxPeriod (c : Configuration) : Nat := max c.huePeriod (max c.hbPeriod c.framePeriod)

/-- The number of ITERATE steps at which a trigger of period `p` fires, by R143 item 2: those that pass a grid point. -/
def firesOn (t0 p : Nat) : Nat → List Nat → Nat
  | _, [] => 0
  | t, t' :: ts => (if periodsPassed t0 p t < periodsPassed t0 p t' then 1 else 0) + firesOn t0 p t' ts

end Sys2Proof.Machine
end

