-- ==== Sys2Proof/WellFormed.lean ====
section
/-! DEFINITION. Well-formed instructions: a sextant form's hue carries the form's guard bits (40_color_transform.md, section 2, template; 30_encoding.md R68). Every other operation is well formed (30_encoding.md R70). -/

namespace Sys2Proof

open Sys2Proof.Machine

/-- "Operands: h, with guard = k" for form S<k>; nothing else can be ill formed. -/
def wellFormed : Instr → Bool
  | .hsv2rgbS0 h _ _ => hueGuard h == 0b000#3
  | .hsv2rgbS1 h _ _ => hueGuard h == 0b001#3
  | .hsv2rgbS2 h _ _ => hueGuard h == 0b010#3
  | .hsv2rgbS3 h _ _ => hueGuard h == 0b011#3
  | .hsv2rgbS4 h _ _ => hueGuard h == 0b100#3
  | .hsv2rgbS5 h _ _ => hueGuard h == 0b101#3
  | .hsv2rgbS6 h _ _ => hueGuard h == 0b110#3
  | .hsv2rgbS7 h _ _ => hueGuard h == 0b111#3
  | .hsv2rgb _ _ _   => true
  | .fillRainbow     => true
  | .start           => true
  | .iterate         => true
  | .hueAdvance      => true
  | .hbToggle        => true
  | .frameRender     => true
  | .idleYield       => true

end Sys2Proof
end

