-- ==== Sys2Proof/Certificates/Slice0/Obligations.lean ====
section
/-! DEFINITION. The statements for the provers, each from the numbered rules of spec/. -/

open Sys2Proof Sys2Proof.Machine

/-! ### Encoding and selection -/

/-- 30_encoding.md R68, R70, the encoder's side: an operation with bits of its own is what the decoder reads from them; HSV2RGB's
word selects the form of its guard; START, ITERATE and FILL_RAINBOW have no bits (R69). -/
def Obligations.DecodeOfEncodeIsTheOperation : Prop :=
  ∀ i : Instr, wellFormed i = true →
    match i with
    | .hsv2rgb h s v => decode (encode i) = .ok (sextantForm (hueGuard h) h s v)
    | .start | .iterate | .fillRainbow => encode i = [] ∧ decode (encode i) = .error .noSelectingBits
    | _ => decode (encode i) = .ok i

/-- 30_encoding.md R70, the decoder's side: every HSV24 word and every DUE3 vector selects something well formed, and the word's
own bytes are the encoding of the sextant form it selects. -/
def Obligations.EveryHsv24WordIsItsFormsEncoding : Prop :=
  ∀ w : Hsv24, wellFormed (decodeHsv24 w) = true ∧ encode (decodeHsv24 w) = hsv24Bytes w ∧
    decode (hsv24Bytes w) = .ok (decodeHsv24 w)

/-- 30_encoding.md R68: bits 23:21 of the word on `hsv_in` select the form, and its operands are bits 23:16, 15:8 and 7:0. -/
def Obligations.TopThreeBitsSelectTheForm : Prop :=
  ∀ w : Hsv24, decodeHsv24 w =
    (if w.extractLsb' 21 3 = 0b000#3 then Instr.hsv2rgbS0
     else if w.extractLsb' 21 3 = 0b001#3 then Instr.hsv2rgbS1
     else if w.extractLsb' 21 3 = 0b010#3 then Instr.hsv2rgbS2
     else if w.extractLsb' 21 3 = 0b011#3 then Instr.hsv2rgbS3
     else if w.extractLsb' 21 3 = 0b100#3 then Instr.hsv2rgbS4
     else if w.extractLsb' 21 3 = 0b101#3 then Instr.hsv2rgbS5
     else if w.extractLsb' 21 3 = 0b110#3 then Instr.hsv2rgbS6
     else Instr.hsv2rgbS7) (w.extractLsb' 16 8) (w.extractLsb' 8 8) (w.extractLsb' 0 8)

/-- 30_encoding.md, section 4 (decoding ITERATE's actions): the decoder selects the rows that match, listed in the order hue,
heartbeat, frame, and the yield only when no other matches; START, ITERATE and FILL_RAINBOW have no bits. It says nothing of
what an iteration performs: IterateRunsTheDecodedActions is about that. -/
def Obligations.DueVectorSelectsActionsInOrder : Prop :=
  (∀ d : Due3, decodeDue3 d =
    (if d.getLsbD 2 then [Instr.hueAdvance] else []) ++ (if d.getLsbD 1 then [Instr.hbToggle] else []) ++
    (if d.getLsbD 0 then [Instr.frameRender] else []) ++ (if d = 0b000#3 then [Instr.idleYield] else [])) ∧
  encode .start = [] ∧ encode .iterate = [] ∧ encode .fillRainbow = []

/-- Words written out from the tables of 30_encoding.md R61, R62, R64, R69. -/
def Obligations.WrittenOutWordsDecode : Prop :=
  decodeTableWord 24 0x19FFFE = some (.hsv2rgbS0 25#8 255#8 254#8) ∧
  decodeTableWord 24 0x60FFFF = some (.hsv2rgbS3 96#8 255#8 255#8) ∧
  decodeTableWord 24 0xC84D21 = some (.hsv2rgbS6 200#8 77#8 33#8) ∧
  decodeTableWord 8 0b100 = some .hueAdvance ∧
  decodeTableWord 8 0b000 = some .idleYield

/-- 30_encoding.md R60, R68: when the bytes of the word on `hsv_in` decode to a well-formed operation, the step is that operation on
the state with the stimulus taken; a Scheduler step is the operation the mode selects, on the state with the drawn values on the
input ports; in HALTED there is none. -/
def Obligations.StepRunsTheSelectedOperation : Prop :=
  ∀ s : State,
    (∀ w i, nextStimulus s = .hsvIn w → decode (hsv24Bytes w) = .ok i → wellFormed i = true →
      step s = exec i (consume s)) ∧
    (∀ t a b k, nextStimulus s = .activate t a b k → s.mode = .reset →
      step s = exec .start (present t a b k (consume s))) ∧
    (∀ t a b k, nextStimulus s = .activate t a b k → s.mode = .running →
      step s = exec .iterate (present t a b k (consume s)))

/-- How an operation comes to run (log 14; the model's choice): the very next step runs the sextant form of a placed word, or an
ITERATE whose due vector is the placed one. -/
def Obligations.PlacedWordRunsNext : Prop :=
  ∀ s : State,
    (∀ w i, decodeTableWord 24 w = some i → step (s.withFetchWord 24 w) = exec i { s with drawn := s.drawn + 1 }) ∧
    (∀ d : Due3, configValid s.cfg = true →
      ∃ p : State, step (s.withFetchWord 8 d.toNat) = exec .iterate p ∧ p.mode = .running ∧ dueVector p = d ∧
        p.cfg = s.cfg ∧ p.hueOffset = s.hueOffset ∧ p.heartbeatOn = s.heartbeatOn ∧ p.buf = s.buf ∧ p.events = s.events)

/-! ### ColorTransform -/

/-- 40_color_transform.md R83 and R84: the formulas, the ends of the ramps, the steps of the first, and that the second is not twice
the first at offset 1. -/
def Obligations.RampsRiseToTheirEnds : Prop :=
  ∀ o : BitVec 5,
    third o = o.toNat * 8 * 85 / 256 ∧ third o ≤ 82 ∧ third 31#5 = 82 ∧
    (o ≠ 31#5 → third (o + 1#5) = third o + 2 ∨ third (o + 1#5) = third o + 3) ∧
    twothirds o = o.toNat * 8 * 170 / 256 ∧ twothirds o ≤ 164 ∧ twothirds 31#5 = 164 ∧
    third 1#5 = 2 ∧ twothirds 1#5 = 5

/-- 40_color_transform.md R86: HSV2RGB.S0 answers on every state, and changes the two ports only. The channel formulas of R86 to R93
are "[from general knowledge, not in source]" by the rules' own mark (log 16), so these eight statements are derived. -/
def Obligations.FormS0RedToOrange : Prop :=
  ∀ (h s v : Byte) (st : State), hueGuard h = 0b000#3 →
    exec (.hsv2rgbS0 h s v) st = .next { st with
      hsvIn := hsv24 h s v
      rgbaOut := finish st.cfg ⟨255 - third (hueOffset5 h), third (hueOffset5 h), 0⟩ s v }

/-- 40_color_transform.md R87; see FormS0RedToOrange. -/
def Obligations.FormS1OrangeToYellow : Prop :=
  ∀ (h s v : Byte) (st : State), hueGuard h = 0b001#3 →
    exec (.hsv2rgbS1 h s v) st = .next { st with
      hsvIn := hsv24 h s v
      rgbaOut := finish st.cfg ⟨171, 85 + third (hueOffset5 h), 0⟩ s v }

/-- 40_color_transform.md R88; see FormS0RedToOrange. -/
def Obligations.FormS2YellowToGreen : Prop :=
  ∀ (h s v : Byte) (st : State), hueGuard h = 0b010#3 →
    exec (.hsv2rgbS2 h s v) st = .next { st with
      hsvIn := hsv24 h s v
      rgbaOut := finish st.cfg ⟨171 - twothirds (hueOffset5 h), 170 + third (hueOffset5 h), 0⟩ s v }

/-- 40_color_transform.md R89; see FormS0RedToOrange. -/
def Obligations.FormS3GreenToAqua : Prop :=
  ∀ (h s v : Byte) (st : State), hueGuard h = 0b011#3 →
    exec (.hsv2rgbS3 h s v) st = .next { st with
      hsvIn := hsv24 h s v
      rgbaOut := finish st.cfg ⟨0, 255 - third (hueOffset5 h), third (hueOffset5 h)⟩ s v }

/-- 40_color_transform.md R90; see FormS0RedToOrange. -/
def Obligations.FormS4AquaToBlue : Prop :=
  ∀ (h s v : Byte) (st : State), hueGuard h = 0b100#3 →
    exec (.hsv2rgbS4 h s v) st = .next { st with
      hsvIn := hsv24 h s v
      rgbaOut := finish st.cfg ⟨0, 171 - twothirds (hueOffset5 h), 85 + twothirds (hueOffset5 h)⟩ s v }

/-- 40_color_transform.md R91; see FormS0RedToOrange. -/
def Obligations.FormS5BlueToPurple : Prop :=
  ∀ (h s v : Byte) (st : State), hueGuard h = 0b101#3 →
    exec (.hsv2rgbS5 h s v) st = .next { st with
      hsvIn := hsv24 h s v
      rgbaOut := finish st.cfg ⟨third (hueOffset5 h), 0, 255 - third (hueOffset5 h)⟩ s v }

/-- 40_color_transform.md R92; see FormS0RedToOrange. -/
def Obligations.FormS6PurpleToPink : Prop :=
  ∀ (h s v : Byte) (st : State), hueGuard h = 0b110#3 →
    exec (.hsv2rgbS6 h s v) st = .next { st with
      hsvIn := hsv24 h s v
      rgbaOut := finish st.cfg ⟨85 + third (hueOffset5 h), 0, 171 - third (hueOffset5 h)⟩ s v }

/-- 40_color_transform.md R93; see FormS0RedToOrange. -/
def Obligations.FormS7PinkToRed : Prop :=
  ∀ (h s v : Byte) (st : State), hueGuard h = 0b111#3 →
    exec (.hsv2rgbS7 h s v) st = .next { st with
      hsvIn := hsv24 h s v
      rgbaOut := finish st.cfg ⟨170 + third (hueOffset5 h), 0, 85 - third (hueOffset5 h)⟩ s v }

/-- 40_color_transform.md R99, R100, R101, 10_state.md R32: HSV2RGB answers on every state, changes the two ports only, and is the
form of its guard bits; under GENERAL the record packs the value step of the saturation step of the raw triple, under BYPASS the raw
triple; every channel fits in 8 bits at every stage, so packing discards no bit, and alpha is 255. -/
def Obligations.WholeTransformRunsItsForm : Prop :=
  ∀ (h s v : Byte) (st : State),
    exec (.hsv2rgb h s v) st = .next { st with hsvIn := hsv24 h s v, rgbaOut := hsvToRgb st.cfg h s v } ∧
    exec (.hsv2rgb h s v) st = exec (sextantForm (hueGuard h) h s v) st ∧
    (st.cfg.svMode = .general →
      hsvToRgb st.cfg h s v =
        packRgba (valChannel st.cfg.vsZero v.toNat (satChannel st.cfg.vsZero s.toNat (rawOf h).r))
          (valChannel st.cfg.vsZero v.toNat (satChannel st.cfg.vsZero s.toNat (rawOf h).g))
          (valChannel st.cfg.vsZero v.toNat (satChannel st.cfg.vsZero s.toNat (rawOf h).b))) ∧
    (st.cfg.svMode = .bypass → hsvToRgb st.cfg h s v = packRgba (rawOf h).r (rawOf h).g (rawOf h).b) ∧
    (∀ z : VsZero, (satStep z s.toNat (rawOf h)).r ≤ 255 ∧ (satStep z s.toNat (rawOf h)).g ≤ 255 ∧
      (satStep z s.toNat (rawOf h)).b ≤ 255) ∧
    (channelR (hsvToRgb st.cfg h s v)).toNat = (finishTriple st.cfg (rawOf h) s v).r ∧
    (channelG (hsvToRgb st.cfg h s v)).toNat = (finishTriple st.cfg (rawOf h) s v).g ∧
    (channelB (hsvToRgb st.cfg h s v)).toNat = (finishTriple st.cfg (rawOf h) s v).b ∧
    channelA (hsvToRgb st.cfg h s v) = 255#8

/-- 40_color_transform.md R94 (an inference the spec marks as its own, "[derived: ...]"): every raw channel lies in 0..255 and no subtraction of the forms goes below 0. -/
def Obligations.SextantStageNeverWraps : Prop :=
  ∀ (h : Byte), (rawOf h).r ≤ 255 ∧ (rawOf h).g ≤ 255 ∧ (rawOf h).b ≤ 255 ∧
    third (hueOffset5 h) ≤ 85 ∧ twothirds (hueOffset5 h) ≤ 171

/-- 40_color_transform.md R95: scale8 lies in 0..254, and it is 254 only for x = f = 255. -/
def Obligations.ScaleStaysBelowFull : Prop :=
  ∀ x f : Nat, x ≤ 255 → f ≤ 255 →
    scale8 x f = x * f / 256 ∧ scale8 x f ≤ 254 ∧ (scale8 x f = 254 ↔ x = 255 ∧ f = 255)

/-- 40_color_transform.md R96: the increment's condition and the corner cases; at the factors 0 and 255 the two steps give their
special cases and not vscale. -/
def Obligations.VideoScaleRoundingCorners : Prop :=
  ∀ (z : VsZero) (x f : Nat), x ≤ 255 → f ≤ 255 →
    vscale z x f = x * f / 256 + (if f ≠ 0 ∧ f ≠ 255 ∧ (z = .lift ∨ x ≠ 0) then 1 else 0) ∧
    vscale z x f ≤ 254 ∧ vscale z x 0 = 0 ∧ vscale z x 255 = x - 1 ∧
    (0 < f → f < 255 → vscale .lift 0 f = 1 ∧ vscale .keep 0 f = 0) ∧
    satChannel z 0 x = 255 ∧ satChannel z 255 x = x ∧ valChannel z 0 x = 0 ∧ valChannel z 255 x = x

/-- 40_color_transform.md R97, R105: the saturation step works on each channel by itself; its special cases and its corner cases. -/
def Obligations.SaturationStepOnAChannel : Prop :=
  ∀ (z : VsZero) (s c : Nat), s ≤ 255 → c ≤ 255 →
    (∀ r g b, satStep z s ⟨r, g, b⟩ = ⟨satChannel z s r, satChannel z s g, satChannel z s b⟩) ∧
    satChannel z 255 c = c ∧ satChannel z 0 c = 255 ∧ vscale z c 0 + (255 - 0) = 255 ∧
    (1 ≤ s → s ≤ 254 →
      satChannel z s c = vscale z c s + (255 - s) ∧ satChannel z s c ≤ 255 ∧
      satChannel z s 255 = 255 ∧ satChannel .lift s 0 = 256 - s ∧ satChannel .keep s 0 = 255 - s ∧
      satChannel .lift 1 c = 255)

/-- 40_color_transform.md R98, R105: the value step works on each channel by itself; its special cases and its corner cases. -/
def Obligations.ValueStepOnAChannel : Prop :=
  ∀ (z : VsZero) (v c : Nat), v ≤ 255 → c ≤ 255 →
    (∀ r g b, valStep z v ⟨r, g, b⟩ = ⟨valChannel z v r, valChannel z v g, valChannel z v b⟩) ∧
    valChannel z 255 c = c ∧ valChannel z 0 c = 0 ∧ vscale z c 0 = 0 ∧
    (1 ≤ v → v ≤ 254 →
      valChannel z v c = vscale z c v ∧ valChannel z v 255 = v ∧ valChannel z v c ≤ 254 ∧
      valChannel .lift v c ≠ 0)

/-- 40_color_transform.md R103 (an inference the spec marks as its own): black at value 0 and gray at saturation 0 under GENERAL, and neither under BYPASS. -/
def Obligations.CollapseToBlackAndGray : Prop :=
  (∀ (cfg : Configuration) (h s v : Byte), cfg.svMode = .general →
    hsvToRgb cfg h s 0#8 = 0x000000FF#32 ∧ hsvToRgb cfg h 0#8 v = v ++ v ++ v ++ 255#8) ∧
  (∀ cfg : Configuration, cfg.svMode = .bypass →
    (¬ ∀ h s : Byte, hsvToRgb cfg h s 0#8 = 0x000000FF#32) ∧
    (¬ ∀ h v : Byte, hsvToRgb cfg h 0#8 v = v ++ v ++ v ++ 255#8))

/-- 40_color_transform.md R102 (an inference the spec marks as its own): at full saturation and value the last color of a sextant and the first of the next (mod 8) differ by
at most 7 in any channel, and they are the colors of the rule's table. -/
def Obligations.SextantBoundariesWithinSeven : Prop :=
  ∀ cfg : Configuration,
    (∀ h : Byte, hueOffset5 h = 31#5 →
      let p := hsvToRgb cfg h 255#8 255#8
      let q := hsvToRgb cfg (h + 1#8) 255#8 255#8
      ((channelR p).toNat ≤ (channelR q).toNat + 7 ∧ (channelR q).toNat ≤ (channelR p).toNat + 7) ∧
      ((channelG p).toNat ≤ (channelG q).toNat + 7 ∧ (channelG q).toNat ≤ (channelG p).toNat + 7) ∧
      ((channelB p).toNat ≤ (channelB q).toNat + 7 ∧ (channelB q).toNat ≤ (channelB p).toNat + 7)) ∧
    (∀ row ∈ ([(31#8, 0xAD5200FF#32, 0xAB5500FF#32), (63#8, 0xABA700FF#32, 0xABAA00FF#32),
        (95#8, 0x07FC00FF#32, 0x00FF00FF#32), (127#8, 0x00AD52FF#32, 0x00AB55FF#32),
        (159#8, 0x0007F9FF#32, 0x0000FFFF#32), (191#8, 0x5200ADFF#32, 0x5500ABFF#32),
        (223#8, 0xA70059FF#32, 0xAA0055FF#32), (255#8, 0xFC0003FF#32, 0xFF0000FF#32)] : List (Byte × Rgba32 × Rgba32)),
      hsvToRgb cfg row.1 255#8 255#8 = row.2.1 ∧ hsvToRgb cfg (row.1 + 1#8) 255#8 255#8 = row.2.2)

/-! ### FrameGenerator -/

/-- 41_frame_generator.md R120, R121: FILL_RAINBOW answers whenever its constants are 8-bit operands; it writes hsvToRgb of
`(off + STEP * i) mod 256` at every index below N, and leaves every other index and every other element as it was. -/
def Obligations.FillWritesEveryPixel : Prop :=
  ∀ s : State, svLegal s.cfg →
    ∃ m : Memory, exec .fillRainbow s = .next { s with buf := m } ∧
      (∀ i, i < s.cfg.n → Memory.read m i =
        some (hsvToRgb s.cfg (BitVec.ofNat 8 (s.hueOffset.toNat + s.cfg.step * i))
          (BitVec.ofNat 8 s.cfg.satK) (BitVec.ofNat 8 s.cfg.valK))) ∧
      (∀ i, s.cfg.n ≤ i → Memory.read m i = Memory.read s.buf i)

/-- 41_frame_generator.md R122, R123 (inferences the spec marks as its own): the buffer after a fill is a function of the offset and the configuration alone, whatever the
(canonical) buffer before; so equal arguments leave equal buffers, and filling twice in a row leaves what filling once leaves. -/
def Obligations.FillDependsOnItsArgumentsAlone : Prop :=
  ∀ s s' : State, s.cfg = s'.cfg → s.hueOffset = s'.hueOffset → svLegal s.cfg → BufferInv s → BufferInv s' →
    ∃ m : Memory, exec .fillRainbow s = .next { s with buf := m } ∧ exec .fillRainbow s' = .next { s' with buf := m } ∧
      exec .fillRainbow { s with buf := m } = .next { s with buf := m }

/-- 41_frame_generator.md R121, corner case: an 8-bit accumulator that starts at `off` and adds `STEP mod 256` per pixel, wrapping,
gives the same hues; and only STEP mod 256 matters (R124). -/
def Obligations.AccumulatorGivesTheSameHues : Prop :=
  ∀ (off : Byte) (step i : Nat),
    hueAt off step i = (fun acc : Byte => acc + BitVec.ofNat 8 (step % 256))^[i] off ∧
    hueAt off step i = hueAt off (step % 256) i

/-- 40_color_transform.md R104 (the model's naturals are the wider operand; log 12): a constant outside 0..255 is refused, by the
fill, by the frame that needs it and by the iteration whose frame is due, and no value is computed. -/
def Obligations.ConstantsOutOfRangeAreRefused : Prop :=
  ∀ s : State, ¬ svLegal s.cfg →
    exec .fillRainbow s = .refused .svOutOfRange ∧ exec .frameRender s = .refused .svOutOfRange ∧
    (s.mode = .running → dueFrame s = true → exec .iterate s = .refused .svOutOfRange)

/-! ### Scheduler: START, faults and reset -/

/-- 42_scheduler.md R131: START in mode RESET. The configuration is checked first, before any pin request, then the heartbeat pin,
then the data pin; the first check that fails raises its fault, with the events before it; otherwise the initial values are written,
the anchors are the sampled time and the mode is RUNNING. Nothing else changes. CONFIG_VALID is the rule's, with TIME_W = 32. -/
def Obligations.StartFollowsItsRule : Prop :=
  ∀ s : State, s.mode = .reset →
    (configValid s.cfg = true ↔
      (1 ≤ s.cfg.huePeriod ∧ s.cfg.huePeriod ≤ 2147483648) ∧ (1 ≤ s.cfg.hbPeriod ∧ s.cfg.hbPeriod ≤ 2147483648) ∧
      (1 ≤ s.cfg.framePeriod ∧ s.cfg.framePeriod ≤ 2147483648) ∧ (1 ≤ s.cfg.n ∧ s.cfg.n ≤ s.cfg.nMax) ∧
      s.cfg.satK ≤ 255 ∧ s.cfg.valK ≤ 255) ∧
    exec .start s = .next (
      if configValid s.cfg = false then { s with mode := .halted, fault := .configError }
      else if s.pinAckHb = .fail then
        { s with mode := .halted, fault := .pinConfigError, events := s.events ++ [.pinConfig .hbPin] }
      else if s.pinAckData = .fail then
        { s with
          mode := .halted, fault := .pinConfigError
          events := s.events ++ [.pinConfig .hbPin, .pinConfig .dataPin] }
      else
        { s with
          mode := .running, hueOffset := 0#8, heartbeatOn := false
          lastHue := s.now, lastHb := s.now, lastFrame := s.now
          events := s.events ++ [.pinConfig .hbPin, .pinConfig .dataPin] })

/-- 60_exceptions.md R165 (an inference the spec marks as its own): a START that faults leaves exactly the state before it but for the mode, the fault and the events before
the failing check; R161: with PIN_CONFIG_ERROR a PinConfig event is the last, with CONFIG_ERROR there is none. -/
def Obligations.FaultingStartIsPrecise : Prop :=
  ∀ s t : State, exec .start s = .next t → t.mode = .halted →
    ∃ added : List Event,
      t = { s with mode := .halted, fault := t.fault, events := s.events ++ added } ∧
      ((t.fault = .configError ∧ added = []) ∨
       (t.fault = .pinConfigError ∧ s.pinAckHb = .fail ∧ added = [.pinConfig .hbPin]) ∨
       (t.fault = .pinConfigError ∧ s.pinAckHb = .ok ∧ s.pinAckData = .fail ∧
         added = [.pinConfig .hbPin, .pinConfig .dataPin]))

/-- 00_scope.md R10 (`require`), 30_encoding.md R60, 60_exceptions.md R166: outside its mode START and ITERATE do not exist, and a
HALTED Scheduler has no step (log 11). -/
def Obligations.NoStepOutsideItsMode : Prop :=
  ∀ s : State,
    (s.mode ≠ .reset → exec .start s = .fault .noSuchStep) ∧
    (s.mode ≠ .running → exec .iterate s = .fault .noSuchStep) ∧
    (∀ t a b k, s.mode = .halted → nextStimulus s = .activate t a b k → step s = .fault .haltedNoStep)

/-- 42_scheduler.md R130: a step that answers moves the mode only along the transitions of the table; in RESET the Scheduler's only
step is START, in RUNNING it is ITERATE, and in HALTED there is none. A word on `hsv_in` is no step of the Scheduler and moves no
mode. -/
def Obligations.ModeMovesAlongItsTransitions : Prop :=
  ∀ s t : State, step s = .next t →
    match nextStimulus s with
    | .rst => t.mode = .reset
    | .hsvIn _ => t.mode = s.mode
    | .activate now ackHb ackData sink =>
      (s.mode = .reset ∧ exec .start (present now ackHb ackData sink (consume s)) = .next t ∧
        ((t.mode = .running ∧ t.fault = s.fault) ∨ (t.mode = .halted ∧ t.fault ≠ .none))) ∨
      (s.mode = .running ∧ exec .iterate (present now ackHb ackData sink (consume s)) = .next t ∧ t.mode = .running)

/-- 60_exceptions.md R167, 10_state.md R27: HALTED is left only by a reset event, which clears the fault; until then the recorded
fault stays. -/
def Obligations.OnlyResetLeavesHalted : Prop :=
  ∀ s t : State, s.mode = .halted → step s = .next t →
    (nextStimulus s = .rst ∧ t.mode = .reset ∧ t.fault = .none) ∨
    (nextStimulus s ≠ .rst ∧ t.mode = .halted ∧ t.fault = s.fault)

/-- 70_reset_and_hazards.md R190: the reset event answers in any mode, with mode RESET, fault NONE and pinLevel UNDRIVEN; no entry of
the buffer holds a value; the configuration is not touched. The values of hueOffset, heartbeatOn and the anchors after it are the
model's choice (log 3, log 10) and are not stated here. -/
def Obligations.ResetEventFromAnyMode : Prop :=
  ∀ s : State, nextStimulus s = .rst →
    ∃ t, step s = .next t ∧ t.mode = .reset ∧ t.fault = .none ∧ t.pinLevel = .undriven ∧ t.cfg = s.cfg ∧
      (∀ i, Memory.read t.buf i = none) ∧ t.hsvIn = s.hsvIn ∧ t.rgbaOut = s.rgbaOut

/-! ### Scheduler: triggers and actions -/

/-- 42_scheduler.md R132, R133, 30_encoding.md R64: each bit of DUE3 is its own trigger's test of the modular elapsed time, and the
modular elapsed time is the true one whenever that is below 2^TIME_W. -/
def Obligations.DueWhenThePeriodHasElapsed : Prop :=
  (∀ s : State,
    ((dueVector s).getLsbD 2 = true ↔ s.cfg.huePeriod ≤ (s.now.toNat + 2 ^ 32 - s.lastHue.toNat) % 2 ^ 32) ∧
    ((dueVector s).getLsbD 1 = true ↔ s.cfg.hbPeriod ≤ (s.now.toNat + 2 ^ 32 - s.lastHb.toNat) % 2 ^ 32) ∧
    ((dueVector s).getLsbD 0 = true ↔ s.cfg.framePeriod ≤ (s.now.toNat + 2 ^ 32 - s.lastFrame.toNat) % 2 ^ 32)) ∧
  (∀ (t last : Time), (elapsed t last).toNat = (t.toNat + 2 ^ 32 - last.toNat) % 2 ^ 32) ∧
  (∀ anchor e : Nat, e < 2 ^ 32 → (elapsed (BitVec.ofNat 32 (anchor + e)) (BitVec.ofNat 32 anchor)).toNat = e)

/-- 42_scheduler.md R134: after the update the elapsed time is `eX mod PERIOD_X`, below the period, so the trigger is not due again
at the same time. -/
def Obligations.FiredTriggerIsNotDueAgain : Prop :=
  ∀ (t last : Time) (period : Nat), 1 ≤ period →
    let e := elapsed t last
    let last' := anchorAfter last period e
    last'.toNat = (last.toNat + period * (e.toNat / period)) % 2 ^ 32 ∧
    (elapsed t last').toNat = e.toNat % period ∧ isDue period (elapsed t last') = false

/-- 42_scheduler.md R136: HUE_ADVANCE answers on every state; the offset moves by one modulo 256, 255 becomes 0, nothing else changes; 256 advances
bring every state back. -/
def Obligations.HueAdvanceWrapsAtTheDomain : Prop :=
  ∀ s : State, ∃ o : Byte, exec .hueAdvance s = .next { s with hueOffset := o } ∧
    o.toNat = (s.hueOffset.toNat + 1) % 256 ∧ (s.hueOffset = 255#8 → o = 0#8) ∧
    runActions (List.replicate 256 .hueAdvance) s = .next s

/-- 42_scheduler.md R145 (an inference the spec marks as its own): after any actions since START of which m are HUE_ADVANCE, hueOffset = m mod 256. -/
def Obligations.HueOffsetCountsTheAdvances : Prop :=
  ∀ (s t0 t : State) (is : List Instr), exec .start s = .next t0 → t0.mode = .running →
    (∀ i ∈ is, isAction i = true) → runActions is t0 = .next t →
    t.hueOffset.toNat = is.count .hueAdvance % 256

/-- 42_scheduler.md R137: HB_TOGGLE answers on every state: the flag flips, true drives HIGH and false LOW, with one PinLevel event. -/
def Obligations.HeartbeatToggleDrivesThePin : Prop :=
  ∀ s : State,
    (s.heartbeatOn = false → exec .hbToggle s = .next { s with
      heartbeatOn := true, pinLevel := .high, events := s.events ++ [.pinLevel .high] }) ∧
    (s.heartbeatOn = true → exec .hbToggle s = .next { s with
      heartbeatOn := false, pinLevel := .low, events := s.events ++ [.pinLevel .low] })

/-- 42_scheduler.md R138, 20_memory.md R41, R42, R45: FRAME_RENDER answers whenever the constants are 8-bit operands; the buffer is
filled, one SinkWrite carries exactly the buffer as just written, in index order, and nothing else changes. -/
def Obligations.FrameRenderHandsOverASnapshot : Prop :=
  ∀ s : State, svLegal s.cfg →
    ∃ m : Memory,
      exec .frameRender s = .next { s with
        buf := m, events := s.events ++ [.sinkWrite (frameRecords s.cfg s.hueOffset)] } ∧
      Memory.readAll s.cfg.n m = some (frameRecords s.cfg s.hueOffset) ∧
      (∀ i, s.cfg.n ≤ i → Memory.read m i = Memory.read s.buf i)

/-- 42_scheduler.md R139: IDLE_YIELD answers on every state with the one event Yield, and nothing else changes; an iteration with
nothing due is that yield, and an iteration with any action due does not yield. -/
def Obligations.IdleYieldOnlyYields : Prop :=
  ∀ s : State,
    exec .idleYield s = .next { s with events := s.events ++ [.yield] } ∧
    (s.mode = .running → dueVector s = 0b000#3 → exec .iterate s = exec .idleYield s) ∧
    (s.mode = .running → svLegal s.cfg → dueVector s ≠ 0b000#3 →
      ∃ (t : State) (added : List Event),
        exec .iterate s = .next t ∧ t.events = s.events ++ added ∧ Event.yield ∉ added)

/-- 42_scheduler.md R135, R140, R141, 70_reset_and_hazards.md R196: ITERATE answers on every RUNNING state whose constants are legal;
each anchor moves exactly when its trigger is due; the actions happen in the order hue, heartbeat, frame, the frame with the hue
offset after the advance; the yield only when nothing is due; everything else stays. -/
def Obligations.IterateDoesExactlyTheDueActions : Prop :=
  ∀ s : State, s.mode = .running → svLegal s.cfg →
    ∃ (m : Memory) (off : Byte),
      exec .iterate s = .next { s with
        hueOffset := off
        heartbeatOn := if dueHb s then !s.heartbeatOn else s.heartbeatOn
        pinLevel := if dueHb s then (if s.heartbeatOn then .low else .high) else s.pinLevel
        lastHue := if dueHue s then anchorAfter s.lastHue s.cfg.huePeriod (elapsedHue s) else s.lastHue
        lastHb := if dueHb s then anchorAfter s.lastHb s.cfg.hbPeriod (elapsedHb s) else s.lastHb
        lastFrame := if dueFrame s then anchorAfter s.lastFrame s.cfg.framePeriod (elapsedFrame s) else s.lastFrame
        buf := m
        events := s.events ++
          (if dueHb s then [.pinLevel (if s.heartbeatOn then .low else .high)] else []) ++
          (if dueFrame s then [.sinkWrite (frameRecords s.cfg off)] else []) ++
          (if dueHue s || dueHb s || dueFrame s then [] else [.yield]) } ∧
      off = (if dueHue s then s.hueOffset + 1#8 else s.hueOffset) ∧
      (if dueFrame s then
        Memory.readAll s.cfg.n m = some (frameRecords s.cfg off) ∧
        (∀ i, s.cfg.n ≤ i → Memory.read m i = Memory.read s.buf i)
       else m = s.buf)

/-- 30_encoding.md R69, 42_scheduler.md R135: an iteration is exactly the operations its due vector decodes to, in the decoder's
order, on the state with the due anchors moved. -/
def Obligations.IterateRunsTheDecodedActions : Prop :=
  ∀ s : State, s.mode = .running →
    exec .iterate s = runActions (decodeDue3 (dueVector s)) (moveAnchors (dueVector s) s)

/-- 42_scheduler.md R142, 60_exceptions.md R162: the sink's status changes nothing: two RUNNING states that differ in it alone
iterate alike. -/
def Obligations.SinkStatusIsIgnored : Prop :=
  ∀ (s : State) (x : SinkStatus), s.mode = .running → svLegal s.cfg →
    ∃ t, exec .iterate s = .next t ∧ exec .iterate { s with sinkStatus := x } = .next { t with sinkStatus := x }

/-! ### The whole machine -/

/-- 10_state.md R20, the writers column, and R28: an operation changes an element only if it is one of that element's writers; none
changes the configuration, the input ports or the environment's stimuli. -/
def Obligations.OnlyItsWritersChangeAnElement : Prop :=
  ∀ (i : Instr) (s t : State), exec i s = .next t →
    (t.mode ≠ s.mode → i = .start) ∧
    (t.fault ≠ s.fault → i = .start) ∧
    (t.hueOffset ≠ s.hueOffset → i = .start ∨ i = .hueAdvance ∨ i = .iterate) ∧
    (t.heartbeatOn ≠ s.heartbeatOn → i = .start ∨ i = .hbToggle ∨ i = .iterate) ∧
    (t.pinLevel ≠ s.pinLevel → i = .hbToggle ∨ i = .iterate) ∧
    (t.lastHue ≠ s.lastHue ∨ t.lastHb ≠ s.lastHb ∨ t.lastFrame ≠ s.lastFrame → i = .start ∨ i = .iterate) ∧
    (t.buf ≠ s.buf → i = .fillRainbow ∨ i = .frameRender ∨ i = .iterate) ∧
    (t.cfg = s.cfg ∧ t.now = s.now ∧ t.pinAckHb = s.pinAckHb ∧ t.pinAckData = s.pinAckData ∧
      t.sinkStatus = s.sinkStatus ∧ t.inputs = s.inputs ∧ t.drawn = s.drawn)

/-- 70_reset_and_hazards.md R197, first sentence, 42_scheduler.md R135: a step adds at most one SinkWrite to the events, and one
only if it is an iteration with the frame trigger due; a reset event alone starts the record anew (log 9). -/
def Obligations.AtMostOneSinkWriteAStep : Prop :=
  ∀ s t : State, step s = .next t → nextStimulus s ≠ .rst →
    ∃ added : List Event, t.events = s.events ++ added ∧ (sinkFrames added).length ≤ 1 ∧
      (sinkFrames added ≠ [] → s.mode = .running ∧ t.mode = .running)

/-- 70_reset_and_hazards.md R197 as written: two SinkWrites at least FRAME_PERIOD apart in true time, on the anchors' grids and
under the environment's duties. It does not follow from R133 and R134: the anchor of a late frame lies before the frame's own time
(log 18). -/
def Obligations.SinkWritesAFullPeriodApart : Prop :=
  ∀ (s s' : State) (t0 t t1 t2 : Nat), s.mode = .running → configValid s.cfg = true → t0 ≤ t → OnGrid t0 t s →
    gapsWithin (2 ^ 32 - maxPeriod s.cfg) t [t1, t2] →
    Host.Core.run core 2 (s.withDraws [drawsAt t1, drawsAt t2]) = .next s' →
    (sinkFrames s'.events).length = (sinkFrames s.events).length + 2 →
    s.cfg.framePeriod ≤ t2 - t1

/-- The state after reset meets the invariant. Its register values are the model's where the spec gives none (log 1 to 9). -/
def Obligations.ResetStateMeetsTheInvariant : Prop := Inv State.reset

/-- Every step of every state that meets the invariant, under every stimulus, leaves a state that meets it: the buffer's canonical
form (20_memory.md R40, R47), `rgba_out` the transform of `hsv_in` (10_state.md R32), a fault recorded exactly in HALTED and RUNNING
only with a legal configuration (60_exceptions.md R166, 42_scheduler.md R131), the alternation of the heartbeat (42_scheduler.md
R144), whole opaque frames (30_encoding.md R65, 40_color_transform.md R101). -/
def Obligations.EveryStepKeepsTheInvariant : Prop :=
  ∀ s t : State, Inv s → step s = .next t → Inv t

/-- 42_scheduler.md R130, R141, 60_exceptions.md R160: a RUNNING block that meets the invariant answers every sequence of Scheduler
steps, whatever is drawn, and stays RUNNING with no fault. -/
def Obligations.RunningNeverStops : Prop :=
  ∀ (s : State) (ds : List Draws), Inv s → s.mode = .running →
    ∃ t, Host.Core.run core ds.length (s.withDraws ds) = .next t ∧ t.mode = .running ∧ t.fault = .none ∧
      t.inputs = s.inputs

/-- 42_scheduler.md R144 (an inference the spec marks as its own): after a START that raises no fault, and any Scheduler steps whatever is drawn, the PinLevel events since
START are HIGH, LOW, HIGH, LOW and so on. -/
def Obligations.HeartbeatStrictlyAlternates : Prop :=
  ∀ (s t0 : State) (ds : List Draws), exec .start s = .next t0 → t0.mode = .running →
    ∃ (t : State) (added : List Event), Host.Core.run core ds.length (t0.withDraws ds) = .next t ∧
      t.events = t0.events ++ added ∧ pinLevels added = alternation (pinLevels added).length

/-- 42_scheduler.md R143 (an inference the spec marks as its own), items 1 and 2: under duties (a) and (b) of 70_reset_and_hazards.md R194 the anchors stand on their grids
after every iteration, and each trigger fires exactly at the iterations that pass one of its grid points. -/
def Obligations.TriggersFireOnTheirGrids : Prop :=
  ∀ (s : State) (t0 t : Nat) (ts : List Nat), s.mode = .running → configValid s.cfg = true → t0 ≤ t → OnGrid t0 t s →
    gapsWithin (2 ^ 32 - maxPeriod s.cfg) t ts →
    ∃ s' : State, Host.Core.run core ts.length (s.withDraws (ts.map drawsAt)) = .next s' ∧
      OnGrid t0 (lastTime t ts) s' ∧
      s'.hueOffset = BitVec.ofNat 8 (s.hueOffset.toNat + firesOn t0 s.cfg.huePeriod t ts) ∧
      (pinLevels s'.events).length = (pinLevels s.events).length + firesOn t0 s.cfg.hbPeriod t ts ∧
      (sinkFrames s'.events).length = (sinkFrames s.events).length + firesOn t0 s.cfg.framePeriod t ts

/-- 42_scheduler.md R143, item 3, from START on: a trigger whose period no gap exceeds fires exactly ⌊(t_m - t0)/P⌋ times. -/
def Obligations.ActionCountsMatchElapsedPeriods : Prop :=
  ∀ (s s0 : State) (t0 : Nat) (ts : List Nat), s.now = BitVec.ofNat 32 t0 → exec .start s = .next s0 → s0.mode = .running →
    gapsWithin (2 ^ 32 - maxPeriod s.cfg) t0 ts →
    ∃ s' : State, Host.Core.run core ts.length (s0.withDraws (ts.map drawsAt)) = .next s' ∧
      (gapsWithin s.cfg.huePeriod t0 ts →
        s'.hueOffset = BitVec.ofNat 8 ((lastTime t0 ts - t0) / s.cfg.huePeriod)) ∧
      (gapsWithin s.cfg.hbPeriod t0 ts →
        (pinLevels s'.events).length = (pinLevels s.events).length + (lastTime t0 ts - t0) / s.cfg.hbPeriod) ∧
      (gapsWithin s.cfg.framePeriod t0 ts →
        (sinkFrames s'.events).length = (sinkFrames s.events).length + (lastTime t0 ts - t0) / s.cfg.framePeriod)

/-- 10_state.md R31, 70_reset_and_hazards.md R190: no rule reads an element that holds no value after reset before a rule writes it.
Two states in mode RESET that differ only there show the same mode, fault, pin level, events and color after any number of steps. -/
def Obligations.UnspecifiedValuesAreNeverSeen : Prop :=
  ∀ (k : Nat) (s t s' : State), s.mode = .reset → SameButUnspecified s t → Host.Core.run core k s = .next s' →
    ∃ t' : State, Host.Core.run core k t = .next t' ∧ t'.mode = s'.mode ∧ t'.fault = s'.fault ∧
      t'.pinLevel = s'.pinLevel ∧ t'.events = s'.events ∧ t'.hsvIn = s'.hsvIn ∧ t'.rgbaOut = s'.rgbaOut

/-! ### The sink's rate -/

/-- 70_reset_and_hazards.md R197, what the other rules give of it (log 18): under duties (a) and (b) of R194, with the anchors on
their grids, `ts` iterations hand over at most one frame each, at most one for each point of the frame grid they pass, and so fewer
than one more than the periods of true time they take. -/
def Obligations.SinkRateIsBoundedByTheFramePeriod : Prop :=
  ∀ (s : State) (t0 t : Nat) (ts : List Nat), s.mode = .running → configValid s.cfg = true → t0 ≤ t → OnGrid t0 t s →
    gapsWithin (2 ^ 32 - maxPeriod s.cfg) t ts →
    ∃ (s' : State) (k : Nat), Host.Core.run core ts.length (s.withDraws (ts.map drawsAt)) = .next s' ∧
      (sinkFrames s'.events).length = (sinkFrames s.events).length + k ∧
      k ≤ ts.length ∧
      k ≤ periodsPassed t0 s.cfg.framePeriod (lastTime t ts) - periodsPassed t0 s.cfg.framePeriod t ∧
      k * s.cfg.framePeriod < lastTime t ts - t + s.cfg.framePeriod

/-- 70_reset_and_hazards.md R197, its reason: after an iteration at `t1` the frame anchor stands at a grid point at or before `t1`,
and a later iteration that emits a SinkWrite, at `t2`, comes at least FRAME_PERIOD after that grid point; so it comes at least
FRAME_PERIOD after `t1` when `t1` is itself a grid point, and later than `t1` always (log 18). -/
def Obligations.SinkWriteNeedsAPeriodFromTheGridPoint : Prop :=
  ∀ (s u w w' : State) (t0 t t1 t2 : Nat) (ts : List Nat), s.mode = .running → configValid s.cfg = true → t0 ≤ t →
    OnGrid t0 t s → gapsWithin (2 ^ 32 - maxPeriod s.cfg) t (t1 :: ts ++ [t2]) →
    Host.Core.run core 1 (s.withDraws [drawsAt t1]) = .next u →
    Host.Core.run core ts.length (u.withDraws (ts.map drawsAt)) = .next w →
    Host.Core.run core 1 (w.withDraws [drawsAt t2]) = .next w' →
    (sinkFrames w'.events).length = (sinkFrames w.events).length + 1 →
    let point := t0 + s.cfg.framePeriod * periodsPassed t0 s.cfg.framePeriod t1
    u.lastFrame = BitVec.ofNat 32 point ∧ point ≤ t1 ∧ point + s.cfg.framePeriod ≤ t2 ∧
      (point = t1 → t1 + s.cfg.framePeriod ≤ t2) ∧ t1 < t2
end

