-- ==== Sys2Proof/Laws/Encoding.lean ====
section
/-! SUPPORT. The bit fields of the formats: a word is its fields put together, and the fields of a word put together are its parts. -/

namespace Sys2Proof.Machine

/-- A hue byte is its guard bits and its offset (30_encoding.md R62). -/
theorem guard_append_offset (h : Byte) : (hueGuard h ++ hueOffset5 h : Byte) = h := by
  simp only [hueGuard, hueOffset5]
  rw [BitVec.extractLsb'_append_extractLsb'_eq_extractLsb' (by rfl)]
  exact BitVec.extractLsb'_eq_self

/-- The form's word is the HSV24 word of a hue that has the form's guard bits. -/
theorem formWord_eq {g : BitVec 3} {h : Byte} (hg : hueGuard h = g) (s v : Byte) : formWord g h s v = hsv24 h s v := by
  subst hg
  unfold formWord hsv24
  rw [guard_append_offset]

/-- The fields of a word, put together, are the word (30_encoding.md R61). -/
theorem hsv24_fields (w : Hsv24) : hsv24 (fieldH w) (fieldS w) (fieldV w) = w := by
  simp only [hsv24, fieldH, fieldS, fieldV]
  rw [BitVec.extractLsb'_append_extractLsb'_eq_extractLsb' (by rfl),
    BitVec.extractLsb'_append_extractLsb'_eq_extractLsb' (by rfl)]
  exact BitVec.extractLsb'_eq_self

@[simp] theorem fieldH_hsv24 (h s v : Byte) : fieldH (hsv24 h s v) = h :=
  (BitVec.extractLsb'_append_eq_of_le (xhi := h ++ s) (xlo := v) (start := 16) (len := 8) (by omega)).trans
    (BitVec.extractLsb'_append_eq_left (a := h) (b := s))

@[simp] theorem fieldS_hsv24 (h s v : Byte) : fieldS (hsv24 h s v) = s :=
  (BitVec.extractLsb'_append_eq_of_le (xhi := h ++ s) (xlo := v) (start := 8) (len := 8) (by omega)).trans
    (BitVec.extractLsb'_append_eq_right (a := h) (b := s))

@[simp] theorem fieldV_hsv24 (h s v : Byte) : fieldV (hsv24 h s v) = v :=
  BitVec.extractLsb'_append_eq_right (a := h ++ s) (b := v)

/-- The three bytes of a word, put together the last one first, are the word. -/
theorem bytes_append (w : Hsv24) :
    (w.extractLsb' 16 8 ++ w.extractLsb' 8 8 ++ w.extractLsb' 0 8 : Hsv24) = w := hsv24_fields w

/-- The decoder reads a word's three bytes as the word. -/
theorem decode_hsv24Bytes (w : Hsv24) : decode (hsv24Bytes w) = .ok (decodeHsv24 w) := by
  simp only [hsv24Bytes, decode, bytes_append]

/-- The guard and offset of a form's own word. -/
theorem formWord_fields (g : BitVec 3) (h s v : Byte) :
    fieldH (formWord g h s v) = g ++ hueOffset5 h ∧ fieldS (formWord g h s v) = s ∧ fieldV (formWord g h s v) = v := by
  have : formWord g h s v = hsv24 (g ++ hueOffset5 h) s v := rfl
  rw [this]
  exact ⟨fieldH_hsv24 _ _ _, fieldS_hsv24 _ _ _, fieldV_hsv24 _ _ _⟩

/-- The guard bits of a hue put together from guard bits and an offset. -/
@[simp] theorem hueGuard_append (g : BitVec 3) (o : BitVec 5) : hueGuard (g ++ o) = g :=
  BitVec.extractLsb'_append_eq_left (a := g) (b := o)

/-- The offset of a hue put together from guard bits and an offset. -/
@[simp] theorem hueOffset5_append (g : BitVec 3) (o : BitVec 5) : hueOffset5 (g ++ o) = o :=
  BitVec.extractLsb'_append_eq_right (a := g) (b := o)

/-- Three guard bits have eight values. -/
theorem guard_cases (g : BitVec 3) : g = 0b000#3 ∨ g = 0b001#3 ∨ g = 0b010#3 ∨ g = 0b011#3 ∨ g = 0b100#3 ∨
    g = 0b101#3 ∨ g = 0b110#3 ∨ g = 0b111#3 := by
  revert g; decide

end Sys2Proof.Machine
end

