-- ==== Sys2Proof/Laws/ColorTransform.lean ====
section
/-! SUPPORT. Bounds of the ColorTransform's stages (40_color_transform.md R83, R84, R95 to R98), and what packing a triple gives. -/

namespace Sys2Proof.Machine

/-- The first ramp ends at 82 (R83). -/
theorem third_le (o : BitVec 5) : third o ≤ 82 := by
  have := o.isLt
  simp only [third, offset8, Config.thirdK]; omega

/-- The second ramp ends at 164 (R84). -/
theorem twothirds_le (o : BitVec 5) : twothirds o ≤ 164 := by
  have := o.isLt
  simp only [twothirds, offset8, Config.twothirdsK]; omega

/-- What a hue's raw triple is, one case for each form (R86 to R93). -/
theorem rawOf_cases (h : Byte) :
    (hueGuard h = 0b000#3 ∧ rawOf h = rawS0 (hueOffset5 h)) ∨ (hueGuard h = 0b001#3 ∧ rawOf h = rawS1 (hueOffset5 h)) ∨
    (hueGuard h = 0b010#3 ∧ rawOf h = rawS2 (hueOffset5 h)) ∨ (hueGuard h = 0b011#3 ∧ rawOf h = rawS3 (hueOffset5 h)) ∨
    (hueGuard h = 0b100#3 ∧ rawOf h = rawS4 (hueOffset5 h)) ∨ (hueGuard h = 0b101#3 ∧ rawOf h = rawS5 (hueOffset5 h)) ∨
    (hueGuard h = 0b110#3 ∧ rawOf h = rawS6 (hueOffset5 h)) ∨ (hueGuard h = 0b111#3 ∧ rawOf h = rawS7 (hueOffset5 h)) := by
  unfold rawOf
  rcases guard_cases (hueGuard h) with e | e | e | e | e | e | e | e <;> simp [e]

/-- A multiply-and-shift of two bytes is below the factor, unless the factor is 0 (R95). -/
theorem scale8_le {x f : Nat} (hx : x ≤ 255) : scale8 x f ≤ f - 1 := by
  unfold scale8
  rcases Nat.eq_zero_or_pos f with rfl | hf
  · simp
  · have h1 : x * f ≤ 255 * f := Nat.mul_le_mul_right f hx
    generalize x * f = y at *
    omega

/-- The full channel scales to one below the factor (R95). -/
theorem scale8_full {f : Nat} (hf : f ≤ 255) : scale8 255 f = f - 1 := by
  unfold scale8; omega

/-- The increment is 0 or 1 (R96). -/
theorem vscaleInc_le (z : VsZero) (x f : Nat) : vscaleInc z x f ≤ 1 := by
  unfold vscaleInc; split <;> omega

/-- A scaled channel does not exceed the factor, for a factor in 1..254 (R96). -/
theorem vscale_le {z : VsZero} {x f : Nat} (hx : x ≤ 255) (hf : 1 ≤ f) : vscale z x f ≤ f := by
  have h1 := scale8_le (f := f) hx
  have h2 := vscaleInc_le z x f
  unfold vscale; omega

/-- The saturation step keeps a channel in 0..255 (R97). -/
theorem satChannel_le {z : VsZero} {s c : Nat} (hc : c ≤ 255) (hs : s ≤ 255) : satChannel z s c ≤ 255 := by
  unfold satChannel
  split
  · exact hc
  · split
    · omega
    · have := vscale_le (z := z) (f := s) hc (by omega)
      omega

/-- The value step keeps a channel in 0..255 (R98). -/
theorem valChannel_le {z : VsZero} {v c : Nat} (hc : c ≤ 255) (hv : v ≤ 255) : valChannel z v c ≤ 255 := by
  unfold valChannel
  split
  · exact hc
  · split
    · omega
    · have := vscale_le (z := z) (f := v) hc (by omega)
      omega

/-- The channels of a packed record. -/
theorem channels_pack (r g b : Nat) :
    channelR (packRgba r g b) = BitVec.ofNat 8 r ∧ channelG (packRgba r g b) = BitVec.ofNat 8 g ∧
    channelB (packRgba r g b) = BitVec.ofNat 8 b ∧ channelA (packRgba r g b) = 255#8 := by
  refine ⟨?_, ?_, ?_, BitVec.extractLsb'_append_eq_right⟩
  · exact (BitVec.extractLsb'_append_eq_of_le (start := 24) (len := 8) (by omega)).trans
      ((BitVec.extractLsb'_append_eq_of_le (start := 16) (len := 8) (by omega)).trans BitVec.extractLsb'_append_eq_left)
  · exact (BitVec.extractLsb'_append_eq_of_le (start := 16) (len := 8) (by omega)).trans
      ((BitVec.extractLsb'_append_eq_of_le (start := 8) (len := 8) (by omega)).trans BitVec.extractLsb'_append_eq_right)
  · exact (BitVec.extractLsb'_append_eq_of_le (start := 8) (len := 8) (by omega)).trans
      BitVec.extractLsb'_append_eq_right

end Sys2Proof.Machine
end

