-- ==== Sys2Proof/Laws/Events.lean ====
section
/-! SUPPORT. The histories read from the output events, under appending and event by event. -/

namespace Sys2Proof.Machine

@[simp] theorem pinLevels_nil : pinLevels [] = [] := rfl
@[simp] theorem pinLevels_pinLevel (l : Level) (es : List Event) : pinLevels (.pinLevel l :: es) = l :: pinLevels es := rfl
@[simp] theorem pinLevels_pinConfig (p : Pin) (es : List Event) : pinLevels (.pinConfig p :: es) = pinLevels es := rfl
@[simp] theorem pinLevels_sinkWrite (q : List Rgba32) (es : List Event) : pinLevels (.sinkWrite q :: es) = pinLevels es := rfl
@[simp] theorem pinLevels_yield (es : List Event) : pinLevels (.yield :: es) = pinLevels es := rfl

@[simp] theorem pinLevels_append (a b : List Event) : pinLevels (a ++ b) = pinLevels a ++ pinLevels b := by
  induction a with
  | nil => rfl
  | cons e a ih => cases e <;> simp [ih]

@[simp] theorem sinkFrames_nil : sinkFrames [] = [] := rfl
@[simp] theorem sinkFrames_pinLevel (l : Level) (es : List Event) : sinkFrames (.pinLevel l :: es) = sinkFrames es := rfl
@[simp] theorem sinkFrames_pinConfig (p : Pin) (es : List Event) : sinkFrames (.pinConfig p :: es) = sinkFrames es := rfl
@[simp] theorem sinkFrames_sinkWrite (q : List Rgba32) (es : List Event) : sinkFrames (.sinkWrite q :: es) = q :: sinkFrames es := rfl
@[simp] theorem sinkFrames_yield (es : List Event) : sinkFrames (.yield :: es) = sinkFrames es := rfl

@[simp] theorem sinkFrames_append (a b : List Event) : sinkFrames (a ++ b) = sinkFrames a ++ sinkFrames b := by
  induction a with
  | nil => rfl
  | cons e a ih => cases e <;> simp [ih]

@[simp] theorem frameEvent_pinConfig (n : Nat) (p : Pin) : frameEvent n (.pinConfig p) = true := rfl
@[simp] theorem frameEvent_pinLevel (n : Nat) (l : Level) : frameEvent n (.pinLevel l) = true := rfl
@[simp] theorem frameEvent_yield (n : Nat) : frameEvent n .yield = true := rfl

/-- The alternation grows by its next level (42_scheduler.md R144). -/
theorem alternation_succ (k : Nat) : alternation (k + 1) = alternation k ++ [levelAt k] := by
  unfold alternation
  rw [List.range_succ, List.map_append]
  rfl

end Sys2Proof.Machine
end

