-- ==== Sys2Proof/Laws/Memory.lean ====
section
/-! SUPPORT. The laws of the pixel buffer: reading after a write, the canonical form under every operation, and what a fill leaves. -/

namespace Sys2Proof.Machine

/-! ### Reading after a write -/

/-- A write gives its index the written record and leaves every other index alone, whatever the list. -/
theorem Memory.read_write (m : Memory) (i : Nat) (p : Rgba32) (k : Nat) :
    Memory.read (Memory.write m i p) k = if k = i then some p else Memory.read m k := by
  induction m with
  | nil => simp [Memory.write, Memory.read, eq_comm]
  | cons c m ih =>
    obtain ⟨j, q⟩ := c
    simp only [Memory.write]
    split
    · simp [Memory.read, eq_comm]
    · split
      · subst_vars; simp only [Memory.read]; split <;> simp_all [eq_comm]
      · simp only [Memory.read, ih]
        by_cases hj : j = k
        · subst hj; simp [eq_comm, *]
        · simp [hj]

/-! ### The canonical form -/

/-- Weakening the lower bound of a rising list. -/
theorem Memory.rising_mono {lo lo' : Nat} {m : Memory} (h : lo' ≤ lo) (hm : Memory.rising lo m = true) :
    Memory.rising lo' m = true := by
  cases m with
  | nil => rfl
  | cons c m => simp only [Memory.rising, Bool.and_eq_true, decide_eq_true_eq] at *; exact ⟨by omega, hm.2⟩

/-- A write keeps the indices rising. -/
theorem Memory.rising_write {lo : Nat} {m : Memory} {i : Nat} (p : Rgba32) (hi : lo ≤ i)
    (hm : Memory.rising lo m = true) : Memory.rising lo (Memory.write m i p) = true := by
  induction m generalizing lo with
  | nil => simpa [Memory.write, Memory.rising] using hi
  | cons c m ih =>
    obtain ⟨j, q⟩ := c
    simp only [Memory.rising, Bool.and_eq_true, decide_eq_true_eq] at hm
    simp only [Memory.write]
    split
    · simp only [Memory.rising, Bool.and_eq_true, decide_eq_true_eq]
      exact ⟨hi, by omega, hm.2⟩
    · split
      · subst_vars; simpa [Memory.rising] using hm
      · simp only [Memory.rising, Bool.and_eq_true, decide_eq_true_eq]
        exact ⟨hm.1, ih (by omega) hm.2⟩

/-- A write inside the bound keeps every index inside the bound. -/
theorem Memory.all_write {n : Nat} {m : Memory} {i : Nat} (p : Rgba32) (hi : i < n)
    (hm : (m.all fun c => decide (c.1 < n)) = true) :
    ((Memory.write m i p).all fun c => decide (c.1 < n)) = true := by
  induction m with
  | nil => simpa [Memory.write] using hi
  | cons c m ih =>
    obtain ⟨j, q⟩ := c
    simp only [List.all_cons, Bool.and_eq_true, decide_eq_true_eq] at hm
    simp only [Memory.write]
    split
    · simp only [List.all_cons, Bool.and_eq_true, decide_eq_true_eq]; exact ⟨hi, hm⟩
    · split
      · simp only [List.all_cons, Bool.and_eq_true, decide_eq_true_eq]; exact ⟨hi, hm.2⟩
      · simp only [List.all_cons, Bool.and_eq_true, decide_eq_true_eq]; exact ⟨hm.1, ih hm.2⟩

/-- The canonical form says the indices rise from 0 and stay below the buffer's length. -/
theorem Memory.wf_iff (n : Nat) (m : Memory) :
    Memory.wf n m = true ↔ Memory.rising 0 m = true ∧ (m.all fun c => decide (c.1 < n)) = true := by
  simp only [Memory.wf, Bool.and_eq_true]

/-- The empty buffer, which holds no value, has the canonical form. -/
theorem Memory.wf_nil (n : Nat) : Memory.wf n [] = true := rfl

/-- A write at an index of the buffer keeps the canonical form. -/
theorem Memory.wf_write {n : Nat} {m : Memory} {i : Nat} (p : Rgba32) (hi : i < n) (hm : Memory.wf n m = true) :
    Memory.wf n (Memory.write m i p) = true := by
  rw [Memory.wf_iff] at *
  exact ⟨Memory.rising_write p (Nat.zero_le i) hm.1, Memory.all_write p hi hm.2⟩

/-- Nothing is listed below the lower bound of a rising list. -/
theorem Memory.read_below {lo : Nat} {m : Memory} (hm : Memory.rising lo m = true) {i : Nat} (hi : i < lo) :
    Memory.read m i = none := by
  induction m generalizing lo with
  | nil => rfl
  | cons c m ih =>
    obtain ⟨j, q⟩ := c
    simp only [Memory.rising, Bool.and_eq_true, decide_eq_true_eq] at hm
    simp only [Memory.read]
    rw [if_neg (by omega)]
    exact ih hm.2 (by omega)

/-- Two rising lists that read alike are equal: equal buffers are equal data. -/
theorem Memory.ext_of_rising {lo : Nat} {m m' : Memory} (hm : Memory.rising lo m = true)
    (hm' : Memory.rising lo m' = true) (h : ∀ i, Memory.read m i = Memory.read m' i) : m = m' := by
  induction m generalizing lo m' with
  | nil =>
    cases m' with
    | nil => rfl
    | cons c' m' => simpa [Memory.read] using h c'.1
  | cons c m ih =>
    obtain ⟨j, q⟩ := c
    cases m' with
    | nil => simpa [Memory.read] using h j
    | cons c' m' =>
      obtain ⟨j', q'⟩ := c'
      simp only [Memory.rising, Bool.and_eq_true, decide_eq_true_eq] at hm hm'
      have hj : j = j' := by
        by_contra hne
        rcases Nat.lt_or_gt_of_ne hne with hlt | hlt
        · have := h j
          rw [Memory.read, if_pos rfl, Memory.read, if_neg (by omega), Memory.read_below hm'.2 (by omega)] at this
          cases this
        · have := h j'
          rw [Memory.read, if_neg (by omega), Memory.read_below hm.2 (by omega), Memory.read, if_pos rfl] at this
          cases this
      subst hj
      have hq : q = q' := by simpa [Memory.read] using h j
      subst hq
      refine congrArg _ (ih hm.2 hm'.2 fun i => ?_)
      by_cases hi : j = i
      · subst hi; rw [Memory.read_below hm.2 (by omega), Memory.read_below hm'.2 (by omega)]
      · simpa [Memory.read, hi] using h i

/-- Buffers in canonical form that read alike are equal. -/
theorem Memory.ext_of_wf {n : Nat} {m m' : Memory} (hm : Memory.wf n m = true) (hm' : Memory.wf n m' = true)
    (h : ∀ i, Memory.read m i = Memory.read m' i) : m = m' :=
  Memory.ext_of_rising ((Memory.wf_iff n m).1 hm).1 ((Memory.wf_iff n m').1 hm').1 h

/-- Outside the buffer nothing is listed. -/
theorem Memory.read_outside {n : Nat} {m : Memory} (hm : Memory.wf n m = true) {i : Nat} (hi : n ≤ i) :
    Memory.read m i = none := by
  have hall := ((Memory.wf_iff n m).1 hm).2
  clear hm
  induction m with
  | nil => rfl
  | cons c m ih =>
    obtain ⟨j, q⟩ := c
    simp only [List.all_cons, Bool.and_eq_true, decide_eq_true_eq] at hall
    simp only [Memory.read]
    rw [if_neg (by omega)]
    exact ih hall.2

/-! ### Reading a list of indices -/

/-- If every listed index holds the value `f` gives it, reading them answers those values in order. -/
theorem Memory.readEach_eq {m : Memory} {f : Nat → Rgba32} {is : List Nat}
    (h : ∀ i ∈ is, Memory.read m i = some (f i)) : Memory.readEach m is = some (is.map f) := by
  induction is with
  | nil => rfl
  | cons i is ih =>
    simp only [Memory.readEach, h i (by simp), ih fun k hk => h k (by simp [hk]), List.map_cons]

/-! ### Filling -/

/-- What a run of ascending writes leaves at each index. -/
theorem Memory.read_fold (f : Nat → Rgba32) (n : Nat) (m : Memory) (k : Nat) :
    Memory.read ((List.range n).foldl (fun m i => Memory.write m i (f i)) m) k =
      if k < n then some (f k) else Memory.read m k := by
  induction n with
  | zero => simp
  | succ n ih =>
    rw [List.range_succ, List.foldl_append, List.foldl_cons, List.foldl_nil, Memory.read_write, ih]
    by_cases hk : k = n
    · subst hk; simp
    · rw [if_neg hk]; congr 1; simp only [eq_iff_iff]; omega

/-- A run of ascending writes inside the buffer keeps the canonical form. -/
theorem Memory.wf_fold (f : Nat → Rgba32) {n k : Nat} (hk : k ≤ n) {m : Memory} (hm : Memory.wf n m = true) :
    Memory.wf n ((List.range k).foldl (fun m i => Memory.write m i (f i)) m) = true := by
  induction k with
  | zero => simpa using hm
  | succ k ih =>
    rw [List.range_succ, List.foldl_append, List.foldl_cons, List.foldl_nil]
    exact Memory.wf_write _ (by omega) (ih (by omega))

/-- What the writes of one fill leave at each index. -/
theorem read_fillMemory (cfg : Configuration) (off sat val : Byte) (m : Memory) (k : Nat) :
    Memory.read (fillMemory cfg off sat val m) k =
      if k < cfg.n then some (pixelAt cfg off sat val k) else Memory.read m k :=
  Memory.read_fold _ _ _ _

/-- A fill keeps the canonical form. -/
theorem wf_fillMemory (cfg : Configuration) (off sat val : Byte) {m : Memory} (hm : Memory.wf cfg.n m = true) :
    Memory.wf cfg.n (fillMemory cfg off sat val m) = true :=
  Memory.wf_fold _ (Nat.le_refl _) hm

/-- After a fill the whole buffer can be read, and it holds the frame's pixels in index order. -/
theorem readAll_fillMemory (cfg : Configuration) (off sat val : Byte) (m : Memory) :
    Memory.readAll cfg.n (fillMemory cfg off sat val m) =
      some ((List.range cfg.n).map (pixelAt cfg off sat val)) := by
  refine Memory.readEach_eq fun i hi => ?_
  rw [read_fillMemory, if_pos (List.mem_range.1 hi)]

end Sys2Proof.Machine
end

