-- ==== Sys2Proof/Laws/PerInstr.lean ====
section
/-! SUPPORT. Statements about every operation as syntax, one lemma per constructor: the encoder's bits carry the fixed field of the operation's row in the opcode table (30_encoding.md R68, R69). -/

namespace Sys2Proof.Laws

open Sys2Proof.Machine

/-- What the opcode table fixes of a row: how many bytes its bits fill, and the value of the bits from `lo` on, `width` of them. -/
structure FixedField where
  bytes : Nat
  lo    : Nat
  width : Nat
  value : Nat
deriving DecidableEq, Repr

/-- The rows of the table; HSV2RGB fixes no bit, and START, ITERATE and FILL_RAINBOW have no bits. -/
def tableRow : Instr → FixedField
  | .hsv2rgbS0 _ _ _ => ⟨3, 21, 3, 0⟩
  | .hsv2rgbS1 _ _ _ => ⟨3, 21, 3, 1⟩
  | .hsv2rgbS2 _ _ _ => ⟨3, 21, 3, 2⟩
  | .hsv2rgbS3 _ _ _ => ⟨3, 21, 3, 3⟩
  | .hsv2rgbS4 _ _ _ => ⟨3, 21, 3, 4⟩
  | .hsv2rgbS5 _ _ _ => ⟨3, 21, 3, 5⟩
  | .hsv2rgbS6 _ _ _ => ⟨3, 21, 3, 6⟩
  | .hsv2rgbS7 _ _ _ => ⟨3, 21, 3, 7⟩
  | .hsv2rgb _ _ _   => ⟨3, 0, 0, 0⟩
  | .fillRainbow     => ⟨0, 0, 0, 0⟩
  | .start           => ⟨0, 0, 0, 0⟩
  | .iterate         => ⟨0, 0, 0, 0⟩
  | .hueAdvance      => ⟨1, 2, 1, 1⟩
  | .hbToggle        => ⟨1, 1, 1, 1⟩
  | .frameRender     => ⟨1, 0, 1, 1⟩
  | .idleYield       => ⟨1, 0, 3, 0⟩

/-- The number whose bits the bytes are, the lowest byte first. -/
def wordOf : List Byte → Nat
  | [] => 0
  | b :: bs => b.toNat + 256 * wordOf bs

/-- The number of an HSV24 word's bytes is the word. -/
theorem wordOf_hsv24Bytes (w : Hsv24) : wordOf (hsv24Bytes w) = w.toNat := by
  have := w.isLt
  simp only [hsv24Bytes, wordOf, BitVec.extractLsb'_toNat, Nat.shiftRight_eq_div_pow]
  omega

/-- Bits 23:21 of a form's word are the form's number (30_encoding.md R68). -/
theorem formWord_top (g : BitVec 3) (h s v : Byte) : (formWord g h s v).toNat / 2 ^ 21 % 2 ^ 3 = g.toNat := by
  have e : (formWord g h s v).extractLsb' 21 3 = g :=
    (BitVec.extractLsb'_append_eq_of_le (start := 21) (len := 3) (by omega)).trans
      ((BitVec.extractLsb'_append_eq_of_le (start := 13) (len := 3) (by omega)).trans
        (BitVec.extractLsb'_append_eq_left (a := g) (b := hueOffset5 h)))
  have := congrArg BitVec.toNat e
  rwa [BitVec.extractLsb'_toNat, Nat.shiftRight_eq_div_pow] at this

namespace EncodingMatchesTable

/-- The encoder writes as many bytes as the row has, with the row's fixed bits in them. -/
def Statement (i : Instr) : Prop :=
  (encode i).length = (tableRow i).bytes ∧
    wordOf (encode i) / 2 ^ (tableRow i).lo % 2 ^ (tableRow i).width = (tableRow i).value

/-- A sextant form's encoding. -/
theorem form (g : BitVec 3) (h s v : Byte) :
    (hsv24Bytes (formWord g h s v)).length = 3 ∧ wordOf (hsv24Bytes (formWord g h s v)) / 2 ^ 21 % 2 ^ 3 = g.toNat :=
  ⟨rfl, by rw [wordOf_hsv24Bytes, formWord_top]⟩

theorem hsv2rgbS0 (h s v : Byte) : Statement (.hsv2rgbS0 h s v) := form 0#3 h s v
theorem hsv2rgbS1 (h s v : Byte) : Statement (.hsv2rgbS1 h s v) := form 1#3 h s v
theorem hsv2rgbS2 (h s v : Byte) : Statement (.hsv2rgbS2 h s v) := form 2#3 h s v
theorem hsv2rgbS3 (h s v : Byte) : Statement (.hsv2rgbS3 h s v) := form 3#3 h s v
theorem hsv2rgbS4 (h s v : Byte) : Statement (.hsv2rgbS4 h s v) := form 4#3 h s v
theorem hsv2rgbS5 (h s v : Byte) : Statement (.hsv2rgbS5 h s v) := form 5#3 h s v
theorem hsv2rgbS6 (h s v : Byte) : Statement (.hsv2rgbS6 h s v) := form 6#3 h s v
theorem hsv2rgbS7 (h s v : Byte) : Statement (.hsv2rgbS7 h s v) := form 7#3 h s v
theorem hsv2rgb (h s v : Byte) : Statement (.hsv2rgb h s v) := ⟨rfl, Nat.mod_one _⟩
theorem fillRainbow : Statement .fillRainbow := ⟨rfl, rfl⟩
theorem start : Statement .start := ⟨rfl, rfl⟩
theorem iterate : Statement .iterate := ⟨rfl, rfl⟩
theorem hueAdvance : Statement .hueAdvance := ⟨rfl, by decide⟩
theorem hbToggle : Statement .hbToggle := ⟨rfl, by decide⟩
theorem frameRender : Statement .frameRender := ⟨rfl, by decide⟩
theorem idleYield : Statement .idleYield := ⟨rfl, by decide⟩

end EncodingMatchesTable

end Sys2Proof.Laws
end

