-- ==== Sys2Proof/Laws/State.lean ====
section
/-! SUPPORT. One lemma per field per update of State: what each named update leaves in each field. -/

namespace Sys2Proof.Machine

/-! ### emit -/

@[simp] theorem emit_cfg (e : Event) (s : State) : (emit e s).cfg = s.cfg := rfl
@[simp] theorem emit_mode (e : Event) (s : State) : (emit e s).mode = s.mode := rfl
@[simp] theorem emit_fault (e : Event) (s : State) : (emit e s).fault = s.fault := rfl
@[simp] theorem emit_hueOffset (e : Event) (s : State) : (emit e s).hueOffset = s.hueOffset := rfl
@[simp] theorem emit_heartbeatOn (e : Event) (s : State) : (emit e s).heartbeatOn = s.heartbeatOn := rfl
@[simp] theorem emit_pinLevel (e : Event) (s : State) : (emit e s).pinLevel = s.pinLevel := rfl
@[simp] theorem emit_lastHue (e : Event) (s : State) : (emit e s).lastHue = s.lastHue := rfl
@[simp] theorem emit_lastHb (e : Event) (s : State) : (emit e s).lastHb = s.lastHb := rfl
@[simp] theorem emit_lastFrame (e : Event) (s : State) : (emit e s).lastFrame = s.lastFrame := rfl
@[simp] theorem emit_buf (e : Event) (s : State) : (emit e s).buf = s.buf := rfl
@[simp] theorem emit_hsvIn (e : Event) (s : State) : (emit e s).hsvIn = s.hsvIn := rfl
@[simp] theorem emit_rgbaOut (e : Event) (s : State) : (emit e s).rgbaOut = s.rgbaOut := rfl
@[simp] theorem emit_now (e : Event) (s : State) : (emit e s).now = s.now := rfl
@[simp] theorem emit_pinAckHb (e : Event) (s : State) : (emit e s).pinAckHb = s.pinAckHb := rfl
@[simp] theorem emit_pinAckData (e : Event) (s : State) : (emit e s).pinAckData = s.pinAckData := rfl
@[simp] theorem emit_sinkStatus (e : Event) (s : State) : (emit e s).sinkStatus = s.sinkStatus := rfl
@[simp] theorem emit_events (e : Event) (s : State) : (emit e s).events = s.events ++ [e] := rfl
@[simp] theorem emit_inputs (e : Event) (s : State) : (emit e s).inputs = s.inputs := rfl
@[simp] theorem emit_drawn (e : Event) (s : State) : (emit e s).drawn = s.drawn := rfl

/-! ### drivePorts -/

@[simp] theorem drivePorts_cfg (w : Hsv24) (p : Rgba32) (s : State) : (drivePorts w p s).cfg = s.cfg := rfl
@[simp] theorem drivePorts_mode (w : Hsv24) (p : Rgba32) (s : State) : (drivePorts w p s).mode = s.mode := rfl
@[simp] theorem drivePorts_fault (w : Hsv24) (p : Rgba32) (s : State) : (drivePorts w p s).fault = s.fault := rfl
@[simp] theorem drivePorts_hueOffset (w : Hsv24) (p : Rgba32) (s : State) : (drivePorts w p s).hueOffset = s.hueOffset := rfl
@[simp] theorem drivePorts_heartbeatOn (w : Hsv24) (p : Rgba32) (s : State) : (drivePorts w p s).heartbeatOn = s.heartbeatOn := rfl
@[simp] theorem drivePorts_pinLevel (w : Hsv24) (p : Rgba32) (s : State) : (drivePorts w p s).pinLevel = s.pinLevel := rfl
@[simp] theorem drivePorts_lastHue (w : Hsv24) (p : Rgba32) (s : State) : (drivePorts w p s).lastHue = s.lastHue := rfl
@[simp] theorem drivePorts_lastHb (w : Hsv24) (p : Rgba32) (s : State) : (drivePorts w p s).lastHb = s.lastHb := rfl
@[simp] theorem drivePorts_lastFrame (w : Hsv24) (p : Rgba32) (s : State) : (drivePorts w p s).lastFrame = s.lastFrame := rfl
@[simp] theorem drivePorts_buf (w : Hsv24) (p : Rgba32) (s : State) : (drivePorts w p s).buf = s.buf := rfl
@[simp] theorem drivePorts_hsvIn (w : Hsv24) (p : Rgba32) (s : State) : (drivePorts w p s).hsvIn = w := rfl
@[simp] theorem drivePorts_rgbaOut (w : Hsv24) (p : Rgba32) (s : State) : (drivePorts w p s).rgbaOut = p := rfl
@[simp] theorem drivePorts_now (w : Hsv24) (p : Rgba32) (s : State) : (drivePorts w p s).now = s.now := rfl
@[simp] theorem drivePorts_pinAckHb (w : Hsv24) (p : Rgba32) (s : State) : (drivePorts w p s).pinAckHb = s.pinAckHb := rfl
@[simp] theorem drivePorts_pinAckData (w : Hsv24) (p : Rgba32) (s : State) : (drivePorts w p s).pinAckData = s.pinAckData := rfl
@[simp] theorem drivePorts_sinkStatus (w : Hsv24) (p : Rgba32) (s : State) : (drivePorts w p s).sinkStatus = s.sinkStatus := rfl
@[simp] theorem drivePorts_events (w : Hsv24) (p : Rgba32) (s : State) : (drivePorts w p s).events = s.events := rfl
@[simp] theorem drivePorts_inputs (w : Hsv24) (p : Rgba32) (s : State) : (drivePorts w p s).inputs = s.inputs := rfl
@[simp] theorem drivePorts_drawn (w : Hsv24) (p : Rgba32) (s : State) : (drivePorts w p s).drawn = s.drawn := rfl

/-! ### present -/

@[simp] theorem present_cfg (t : Time) (a b : Ack) (k : SinkStatus) (s : State) : (present t a b k s).cfg = s.cfg := rfl
@[simp] theorem present_mode (t : Time) (a b : Ack) (k : SinkStatus) (s : State) : (present t a b k s).mode = s.mode := rfl
@[simp] theorem present_fault (t : Time) (a b : Ack) (k : SinkStatus) (s : State) : (present t a b k s).fault = s.fault := rfl
@[simp] theorem present_hueOffset (t : Time) (a b : Ack) (k : SinkStatus) (s : State) : (present t a b k s).hueOffset = s.hueOffset := rfl
@[simp] theorem present_heartbeatOn (t : Time) (a b : Ack) (k : SinkStatus) (s : State) : (present t a b k s).heartbeatOn = s.heartbeatOn := rfl
@[simp] theorem present_pinLevel (t : Time) (a b : Ack) (k : SinkStatus) (s : State) : (present t a b k s).pinLevel = s.pinLevel := rfl
@[simp] theorem present_lastHue (t : Time) (a b : Ack) (k : SinkStatus) (s : State) : (present t a b k s).lastHue = s.lastHue := rfl
@[simp] theorem present_lastHb (t : Time) (a b : Ack) (k : SinkStatus) (s : State) : (present t a b k s).lastHb = s.lastHb := rfl
@[simp] theorem present_lastFrame (t : Time) (a b : Ack) (k : SinkStatus) (s : State) : (present t a b k s).lastFrame = s.lastFrame := rfl
@[simp] theorem present_buf (t : Time) (a b : Ack) (k : SinkStatus) (s : State) : (present t a b k s).buf = s.buf := rfl
@[simp] theorem present_hsvIn (t : Time) (a b : Ack) (k : SinkStatus) (s : State) : (present t a b k s).hsvIn = s.hsvIn := rfl
@[simp] theorem present_rgbaOut (t : Time) (a b : Ack) (k : SinkStatus) (s : State) : (present t a b k s).rgbaOut = s.rgbaOut := rfl
@[simp] theorem present_now (t : Time) (a b : Ack) (k : SinkStatus) (s : State) : (present t a b k s).now = t := rfl
@[simp] theorem present_pinAckHb (t : Time) (a b : Ack) (k : SinkStatus) (s : State) : (present t a b k s).pinAckHb = a := rfl
@[simp] theorem present_pinAckData (t : Time) (a b : Ack) (k : SinkStatus) (s : State) : (present t a b k s).pinAckData = b := rfl
@[simp] theorem present_sinkStatus (t : Time) (a b : Ack) (k : SinkStatus) (s : State) : (present t a b k s).sinkStatus = k := rfl
@[simp] theorem present_events (t : Time) (a b : Ack) (k : SinkStatus) (s : State) : (present t a b k s).events = s.events := rfl
@[simp] theorem present_inputs (t : Time) (a b : Ack) (k : SinkStatus) (s : State) : (present t a b k s).inputs = s.inputs := rfl
@[simp] theorem present_drawn (t : Time) (a b : Ack) (k : SinkStatus) (s : State) : (present t a b k s).drawn = s.drawn := rfl

/-! ### setBuf -/

@[simp] theorem setBuf_cfg (m : Memory) (s : State) : (setBuf m s).cfg = s.cfg := rfl
@[simp] theorem setBuf_mode (m : Memory) (s : State) : (setBuf m s).mode = s.mode := rfl
@[simp] theorem setBuf_fault (m : Memory) (s : State) : (setBuf m s).fault = s.fault := rfl
@[simp] theorem setBuf_hueOffset (m : Memory) (s : State) : (setBuf m s).hueOffset = s.hueOffset := rfl
@[simp] theorem setBuf_heartbeatOn (m : Memory) (s : State) : (setBuf m s).heartbeatOn = s.heartbeatOn := rfl
@[simp] theorem setBuf_pinLevel (m : Memory) (s : State) : (setBuf m s).pinLevel = s.pinLevel := rfl
@[simp] theorem setBuf_lastHue (m : Memory) (s : State) : (setBuf m s).lastHue = s.lastHue := rfl
@[simp] theorem setBuf_lastHb (m : Memory) (s : State) : (setBuf m s).lastHb = s.lastHb := rfl
@[simp] theorem setBuf_lastFrame (m : Memory) (s : State) : (setBuf m s).lastFrame = s.lastFrame := rfl
@[simp] theorem setBuf_buf (m : Memory) (s : State) : (setBuf m s).buf = m := rfl
@[simp] theorem setBuf_hsvIn (m : Memory) (s : State) : (setBuf m s).hsvIn = s.hsvIn := rfl
@[simp] theorem setBuf_rgbaOut (m : Memory) (s : State) : (setBuf m s).rgbaOut = s.rgbaOut := rfl
@[simp] theorem setBuf_now (m : Memory) (s : State) : (setBuf m s).now = s.now := rfl
@[simp] theorem setBuf_pinAckHb (m : Memory) (s : State) : (setBuf m s).pinAckHb = s.pinAckHb := rfl
@[simp] theorem setBuf_pinAckData (m : Memory) (s : State) : (setBuf m s).pinAckData = s.pinAckData := rfl
@[simp] theorem setBuf_sinkStatus (m : Memory) (s : State) : (setBuf m s).sinkStatus = s.sinkStatus := rfl
@[simp] theorem setBuf_events (m : Memory) (s : State) : (setBuf m s).events = s.events := rfl
@[simp] theorem setBuf_inputs (m : Memory) (s : State) : (setBuf m s).inputs = s.inputs := rfl
@[simp] theorem setBuf_drawn (m : Memory) (s : State) : (setBuf m s).drawn = s.drawn := rfl

/-! ### raiseFault -/

@[simp] theorem raiseFault_cfg (f : FaultCode) (s : State) : (raiseFault f s).cfg = s.cfg := rfl
@[simp] theorem raiseFault_mode (f : FaultCode) (s : State) : (raiseFault f s).mode = .halted := rfl
@[simp] theorem raiseFault_fault (f : FaultCode) (s : State) : (raiseFault f s).fault = f := rfl
@[simp] theorem raiseFault_hueOffset (f : FaultCode) (s : State) : (raiseFault f s).hueOffset = s.hueOffset := rfl
@[simp] theorem raiseFault_heartbeatOn (f : FaultCode) (s : State) : (raiseFault f s).heartbeatOn = s.heartbeatOn := rfl
@[simp] theorem raiseFault_pinLevel (f : FaultCode) (s : State) : (raiseFault f s).pinLevel = s.pinLevel := rfl
@[simp] theorem raiseFault_lastHue (f : FaultCode) (s : State) : (raiseFault f s).lastHue = s.lastHue := rfl
@[simp] theorem raiseFault_lastHb (f : FaultCode) (s : State) : (raiseFault f s).lastHb = s.lastHb := rfl
@[simp] theorem raiseFault_lastFrame (f : FaultCode) (s : State) : (raiseFault f s).lastFrame = s.lastFrame := rfl
@[simp] theorem raiseFault_buf (f : FaultCode) (s : State) : (raiseFault f s).buf = s.buf := rfl
@[simp] theorem raiseFault_hsvIn (f : FaultCode) (s : State) : (raiseFault f s).hsvIn = s.hsvIn := rfl
@[simp] theorem raiseFault_rgbaOut (f : FaultCode) (s : State) : (raiseFault f s).rgbaOut = s.rgbaOut := rfl
@[simp] theorem raiseFault_now (f : FaultCode) (s : State) : (raiseFault f s).now = s.now := rfl
@[simp] theorem raiseFault_pinAckHb (f : FaultCode) (s : State) : (raiseFault f s).pinAckHb = s.pinAckHb := rfl
@[simp] theorem raiseFault_pinAckData (f : FaultCode) (s : State) : (raiseFault f s).pinAckData = s.pinAckData := rfl
@[simp] theorem raiseFault_sinkStatus (f : FaultCode) (s : State) : (raiseFault f s).sinkStatus = s.sinkStatus := rfl
@[simp] theorem raiseFault_events (f : FaultCode) (s : State) : (raiseFault f s).events = s.events := rfl
@[simp] theorem raiseFault_inputs (f : FaultCode) (s : State) : (raiseFault f s).inputs = s.inputs := rfl
@[simp] theorem raiseFault_drawn (f : FaultCode) (s : State) : (raiseFault f s).drawn = s.drawn := rfl

/-! ### resetEvent -/

@[simp] theorem resetEvent_cfg (s : State) : (resetEvent s).cfg = s.cfg := rfl
@[simp] theorem resetEvent_mode (s : State) : (resetEvent s).mode = .reset := rfl
@[simp] theorem resetEvent_fault (s : State) : (resetEvent s).fault = .none := rfl
@[simp] theorem resetEvent_hueOffset (s : State) : (resetEvent s).hueOffset = 0#8 := rfl
@[simp] theorem resetEvent_heartbeatOn (s : State) : (resetEvent s).heartbeatOn = false := rfl
@[simp] theorem resetEvent_pinLevel (s : State) : (resetEvent s).pinLevel = .undriven := rfl
@[simp] theorem resetEvent_lastHue (s : State) : (resetEvent s).lastHue = 0#32 := rfl
@[simp] theorem resetEvent_lastHb (s : State) : (resetEvent s).lastHb = 0#32 := rfl
@[simp] theorem resetEvent_lastFrame (s : State) : (resetEvent s).lastFrame = 0#32 := rfl
@[simp] theorem resetEvent_buf (s : State) : (resetEvent s).buf = [] := rfl
@[simp] theorem resetEvent_hsvIn (s : State) : (resetEvent s).hsvIn = s.hsvIn := rfl
@[simp] theorem resetEvent_rgbaOut (s : State) : (resetEvent s).rgbaOut = s.rgbaOut := rfl
@[simp] theorem resetEvent_now (s : State) : (resetEvent s).now = s.now := rfl
@[simp] theorem resetEvent_pinAckHb (s : State) : (resetEvent s).pinAckHb = s.pinAckHb := rfl
@[simp] theorem resetEvent_pinAckData (s : State) : (resetEvent s).pinAckData = s.pinAckData := rfl
@[simp] theorem resetEvent_sinkStatus (s : State) : (resetEvent s).sinkStatus = s.sinkStatus := rfl
@[simp] theorem resetEvent_events (s : State) : (resetEvent s).events = [] := rfl
@[simp] theorem resetEvent_inputs (s : State) : (resetEvent s).inputs = s.inputs := rfl
@[simp] theorem resetEvent_drawn (s : State) : (resetEvent s).drawn = s.drawn := rfl

/-! ### consume -/

@[simp] theorem consume_cfg (s : State) : (consume s).cfg = s.cfg := rfl
@[simp] theorem consume_mode (s : State) : (consume s).mode = s.mode := rfl
@[simp] theorem consume_fault (s : State) : (consume s).fault = s.fault := rfl
@[simp] theorem consume_hueOffset (s : State) : (consume s).hueOffset = s.hueOffset := rfl
@[simp] theorem consume_heartbeatOn (s : State) : (consume s).heartbeatOn = s.heartbeatOn := rfl
@[simp] theorem consume_pinLevel (s : State) : (consume s).pinLevel = s.pinLevel := rfl
@[simp] theorem consume_lastHue (s : State) : (consume s).lastHue = s.lastHue := rfl
@[simp] theorem consume_lastHb (s : State) : (consume s).lastHb = s.lastHb := rfl
@[simp] theorem consume_lastFrame (s : State) : (consume s).lastFrame = s.lastFrame := rfl
@[simp] theorem consume_buf (s : State) : (consume s).buf = s.buf := rfl
@[simp] theorem consume_hsvIn (s : State) : (consume s).hsvIn = s.hsvIn := rfl
@[simp] theorem consume_rgbaOut (s : State) : (consume s).rgbaOut = s.rgbaOut := rfl
@[simp] theorem consume_now (s : State) : (consume s).now = s.now := rfl
@[simp] theorem consume_pinAckHb (s : State) : (consume s).pinAckHb = s.pinAckHb := rfl
@[simp] theorem consume_pinAckData (s : State) : (consume s).pinAckData = s.pinAckData := rfl
@[simp] theorem consume_sinkStatus (s : State) : (consume s).sinkStatus = s.sinkStatus := rfl
@[simp] theorem consume_events (s : State) : (consume s).events = s.events := rfl
@[simp] theorem consume_inputs (s : State) : (consume s).inputs = s.inputs.tail := rfl
@[simp] theorem consume_drawn (s : State) : (consume s).drawn = s.drawn + 1 := rfl

/-! ### pushStimulus -/

@[simp] theorem pushStimulus_cfg (x : Stimulus) (s : State) : (pushStimulus x s).cfg = s.cfg := rfl
@[simp] theorem pushStimulus_mode (x : Stimulus) (s : State) : (pushStimulus x s).mode = s.mode := rfl
@[simp] theorem pushStimulus_fault (x : Stimulus) (s : State) : (pushStimulus x s).fault = s.fault := rfl
@[simp] theorem pushStimulus_hueOffset (x : Stimulus) (s : State) : (pushStimulus x s).hueOffset = s.hueOffset := rfl
@[simp] theorem pushStimulus_heartbeatOn (x : Stimulus) (s : State) : (pushStimulus x s).heartbeatOn = s.heartbeatOn := rfl
@[simp] theorem pushStimulus_pinLevel (x : Stimulus) (s : State) : (pushStimulus x s).pinLevel = s.pinLevel := rfl
@[simp] theorem pushStimulus_lastHue (x : Stimulus) (s : State) : (pushStimulus x s).lastHue = s.lastHue := rfl
@[simp] theorem pushStimulus_lastHb (x : Stimulus) (s : State) : (pushStimulus x s).lastHb = s.lastHb := rfl
@[simp] theorem pushStimulus_lastFrame (x : Stimulus) (s : State) : (pushStimulus x s).lastFrame = s.lastFrame := rfl
@[simp] theorem pushStimulus_buf (x : Stimulus) (s : State) : (pushStimulus x s).buf = s.buf := rfl
@[simp] theorem pushStimulus_hsvIn (x : Stimulus) (s : State) : (pushStimulus x s).hsvIn = s.hsvIn := rfl
@[simp] theorem pushStimulus_rgbaOut (x : Stimulus) (s : State) : (pushStimulus x s).rgbaOut = s.rgbaOut := rfl
@[simp] theorem pushStimulus_now (x : Stimulus) (s : State) : (pushStimulus x s).now = s.now := rfl
@[simp] theorem pushStimulus_pinAckHb (x : Stimulus) (s : State) : (pushStimulus x s).pinAckHb = s.pinAckHb := rfl
@[simp] theorem pushStimulus_pinAckData (x : Stimulus) (s : State) : (pushStimulus x s).pinAckData = s.pinAckData := rfl
@[simp] theorem pushStimulus_sinkStatus (x : Stimulus) (s : State) : (pushStimulus x s).sinkStatus = s.sinkStatus := rfl
@[simp] theorem pushStimulus_events (x : Stimulus) (s : State) : (pushStimulus x s).events = s.events := rfl
@[simp] theorem pushStimulus_inputs (x : Stimulus) (s : State) : (pushStimulus x s).inputs = x :: s.inputs := rfl
@[simp] theorem pushStimulus_drawn (x : Stimulus) (s : State) : (pushStimulus x s).drawn = s.drawn := rfl

/-! ### fireHue -/

@[simp] theorem fireHue_cfg (s : State) : (fireHue s).cfg = s.cfg := rfl
@[simp] theorem fireHue_mode (s : State) : (fireHue s).mode = s.mode := rfl
@[simp] theorem fireHue_fault (s : State) : (fireHue s).fault = s.fault := rfl
@[simp] theorem fireHue_hueOffset (s : State) : (fireHue s).hueOffset = s.hueOffset := rfl
@[simp] theorem fireHue_heartbeatOn (s : State) : (fireHue s).heartbeatOn = s.heartbeatOn := rfl
@[simp] theorem fireHue_pinLevel (s : State) : (fireHue s).pinLevel = s.pinLevel := rfl
@[simp] theorem fireHue_lastHue (s : State) : (fireHue s).lastHue = anchorAfter s.lastHue s.cfg.huePeriod (elapsedHue s) := rfl
@[simp] theorem fireHue_lastHb (s : State) : (fireHue s).lastHb = s.lastHb := rfl
@[simp] theorem fireHue_lastFrame (s : State) : (fireHue s).lastFrame = s.lastFrame := rfl
@[simp] theorem fireHue_buf (s : State) : (fireHue s).buf = s.buf := rfl
@[simp] theorem fireHue_hsvIn (s : State) : (fireHue s).hsvIn = s.hsvIn := rfl
@[simp] theorem fireHue_rgbaOut (s : State) : (fireHue s).rgbaOut = s.rgbaOut := rfl
@[simp] theorem fireHue_now (s : State) : (fireHue s).now = s.now := rfl
@[simp] theorem fireHue_pinAckHb (s : State) : (fireHue s).pinAckHb = s.pinAckHb := rfl
@[simp] theorem fireHue_pinAckData (s : State) : (fireHue s).pinAckData = s.pinAckData := rfl
@[simp] theorem fireHue_sinkStatus (s : State) : (fireHue s).sinkStatus = s.sinkStatus := rfl
@[simp] theorem fireHue_events (s : State) : (fireHue s).events = s.events := rfl
@[simp] theorem fireHue_inputs (s : State) : (fireHue s).inputs = s.inputs := rfl
@[simp] theorem fireHue_drawn (s : State) : (fireHue s).drawn = s.drawn := rfl

/-! ### fireHb -/

@[simp] theorem fireHb_cfg (s : State) : (fireHb s).cfg = s.cfg := rfl
@[simp] theorem fireHb_mode (s : State) : (fireHb s).mode = s.mode := rfl
@[simp] theorem fireHb_fault (s : State) : (fireHb s).fault = s.fault := rfl
@[simp] theorem fireHb_hueOffset (s : State) : (fireHb s).hueOffset = s.hueOffset := rfl
@[simp] theorem fireHb_heartbeatOn (s : State) : (fireHb s).heartbeatOn = s.heartbeatOn := rfl
@[simp] theorem fireHb_pinLevel (s : State) : (fireHb s).pinLevel = s.pinLevel := rfl
@[simp] theorem fireHb_lastHue (s : State) : (fireHb s).lastHue = s.lastHue := rfl
@[simp] theorem fireHb_lastHb (s : State) : (fireHb s).lastHb = anchorAfter s.lastHb s.cfg.hbPeriod (elapsedHb s) := rfl
@[simp] theorem fireHb_lastFrame (s : State) : (fireHb s).lastFrame = s.lastFrame := rfl
@[simp] theorem fireHb_buf (s : State) : (fireHb s).buf = s.buf := rfl
@[simp] theorem fireHb_hsvIn (s : State) : (fireHb s).hsvIn = s.hsvIn := rfl
@[simp] theorem fireHb_rgbaOut (s : State) : (fireHb s).rgbaOut = s.rgbaOut := rfl
@[simp] theorem fireHb_now (s : State) : (fireHb s).now = s.now := rfl
@[simp] theorem fireHb_pinAckHb (s : State) : (fireHb s).pinAckHb = s.pinAckHb := rfl
@[simp] theorem fireHb_pinAckData (s : State) : (fireHb s).pinAckData = s.pinAckData := rfl
@[simp] theorem fireHb_sinkStatus (s : State) : (fireHb s).sinkStatus = s.sinkStatus := rfl
@[simp] theorem fireHb_events (s : State) : (fireHb s).events = s.events := rfl
@[simp] theorem fireHb_inputs (s : State) : (fireHb s).inputs = s.inputs := rfl
@[simp] theorem fireHb_drawn (s : State) : (fireHb s).drawn = s.drawn := rfl

/-! ### fireFrame -/

@[simp] theorem fireFrame_cfg (s : State) : (fireFrame s).cfg = s.cfg := rfl
@[simp] theorem fireFrame_mode (s : State) : (fireFrame s).mode = s.mode := rfl
@[simp] theorem fireFrame_fault (s : State) : (fireFrame s).fault = s.fault := rfl
@[simp] theorem fireFrame_hueOffset (s : State) : (fireFrame s).hueOffset = s.hueOffset := rfl
@[simp] theorem fireFrame_heartbeatOn (s : State) : (fireFrame s).heartbeatOn = s.heartbeatOn := rfl
@[simp] theorem fireFrame_pinLevel (s : State) : (fireFrame s).pinLevel = s.pinLevel := rfl
@[simp] theorem fireFrame_lastHue (s : State) : (fireFrame s).lastHue = s.lastHue := rfl
@[simp] theorem fireFrame_lastHb (s : State) : (fireFrame s).lastHb = s.lastHb := rfl
@[simp] theorem fireFrame_lastFrame (s : State) : (fireFrame s).lastFrame = anchorAfter s.lastFrame s.cfg.framePeriod (elapsedFrame s) := rfl
@[simp] theorem fireFrame_buf (s : State) : (fireFrame s).buf = s.buf := rfl
@[simp] theorem fireFrame_hsvIn (s : State) : (fireFrame s).hsvIn = s.hsvIn := rfl
@[simp] theorem fireFrame_rgbaOut (s : State) : (fireFrame s).rgbaOut = s.rgbaOut := rfl
@[simp] theorem fireFrame_now (s : State) : (fireFrame s).now = s.now := rfl
@[simp] theorem fireFrame_pinAckHb (s : State) : (fireFrame s).pinAckHb = s.pinAckHb := rfl
@[simp] theorem fireFrame_pinAckData (s : State) : (fireFrame s).pinAckData = s.pinAckData := rfl
@[simp] theorem fireFrame_sinkStatus (s : State) : (fireFrame s).sinkStatus = s.sinkStatus := rfl
@[simp] theorem fireFrame_events (s : State) : (fireFrame s).events = s.events := rfl
@[simp] theorem fireFrame_inputs (s : State) : (fireFrame s).inputs = s.inputs := rfl
@[simp] theorem fireFrame_drawn (s : State) : (fireFrame s).drawn = s.drawn := rfl

/-! ### advanceHue -/

@[simp] theorem advanceHue_cfg (s : State) : (advanceHue s).cfg = s.cfg := rfl
@[simp] theorem advanceHue_mode (s : State) : (advanceHue s).mode = s.mode := rfl
@[simp] theorem advanceHue_fault (s : State) : (advanceHue s).fault = s.fault := rfl
@[simp] theorem advanceHue_hueOffset (s : State) : (advanceHue s).hueOffset = BitVec.ofNat 8 ((s.hueOffset.toNat + 1) % Config.hueDomain) := rfl
@[simp] theorem advanceHue_heartbeatOn (s : State) : (advanceHue s).heartbeatOn = s.heartbeatOn := rfl
@[simp] theorem advanceHue_pinLevel (s : State) : (advanceHue s).pinLevel = s.pinLevel := rfl
@[simp] theorem advanceHue_lastHue (s : State) : (advanceHue s).lastHue = s.lastHue := rfl
@[simp] theorem advanceHue_lastHb (s : State) : (advanceHue s).lastHb = s.lastHb := rfl
@[simp] theorem advanceHue_lastFrame (s : State) : (advanceHue s).lastFrame = s.lastFrame := rfl
@[simp] theorem advanceHue_buf (s : State) : (advanceHue s).buf = s.buf := rfl
@[simp] theorem advanceHue_hsvIn (s : State) : (advanceHue s).hsvIn = s.hsvIn := rfl
@[simp] theorem advanceHue_rgbaOut (s : State) : (advanceHue s).rgbaOut = s.rgbaOut := rfl
@[simp] theorem advanceHue_now (s : State) : (advanceHue s).now = s.now := rfl
@[simp] theorem advanceHue_pinAckHb (s : State) : (advanceHue s).pinAckHb = s.pinAckHb := rfl
@[simp] theorem advanceHue_pinAckData (s : State) : (advanceHue s).pinAckData = s.pinAckData := rfl
@[simp] theorem advanceHue_sinkStatus (s : State) : (advanceHue s).sinkStatus = s.sinkStatus := rfl
@[simp] theorem advanceHue_events (s : State) : (advanceHue s).events = s.events := rfl
@[simp] theorem advanceHue_inputs (s : State) : (advanceHue s).inputs = s.inputs := rfl
@[simp] theorem advanceHue_drawn (s : State) : (advanceHue s).drawn = s.drawn := rfl

/-! ### enterRunning -/

@[simp] theorem enterRunning_cfg (s : State) : (enterRunning s).cfg = s.cfg := rfl
@[simp] theorem enterRunning_mode (s : State) : (enterRunning s).mode = .running := rfl
@[simp] theorem enterRunning_fault (s : State) : (enterRunning s).fault = s.fault := rfl
@[simp] theorem enterRunning_hueOffset (s : State) : (enterRunning s).hueOffset = 0#8 := rfl
@[simp] theorem enterRunning_heartbeatOn (s : State) : (enterRunning s).heartbeatOn = false := rfl
@[simp] theorem enterRunning_pinLevel (s : State) : (enterRunning s).pinLevel = s.pinLevel := rfl
@[simp] theorem enterRunning_lastHue (s : State) : (enterRunning s).lastHue = s.now := rfl
@[simp] theorem enterRunning_lastHb (s : State) : (enterRunning s).lastHb = s.now := rfl
@[simp] theorem enterRunning_lastFrame (s : State) : (enterRunning s).lastFrame = s.now := rfl
@[simp] theorem enterRunning_buf (s : State) : (enterRunning s).buf = s.buf := rfl
@[simp] theorem enterRunning_hsvIn (s : State) : (enterRunning s).hsvIn = s.hsvIn := rfl
@[simp] theorem enterRunning_rgbaOut (s : State) : (enterRunning s).rgbaOut = s.rgbaOut := rfl
@[simp] theorem enterRunning_now (s : State) : (enterRunning s).now = s.now := rfl
@[simp] theorem enterRunning_pinAckHb (s : State) : (enterRunning s).pinAckHb = s.pinAckHb := rfl
@[simp] theorem enterRunning_pinAckData (s : State) : (enterRunning s).pinAckData = s.pinAckData := rfl
@[simp] theorem enterRunning_sinkStatus (s : State) : (enterRunning s).sinkStatus = s.sinkStatus := rfl
@[simp] theorem enterRunning_events (s : State) : (enterRunning s).events = s.events := rfl
@[simp] theorem enterRunning_inputs (s : State) : (enterRunning s).inputs = s.inputs := rfl
@[simp] theorem enterRunning_drawn (s : State) : (enterRunning s).drawn = s.drawn := rfl

/-! ### yieldIdle -/

@[simp] theorem yieldIdle_cfg (s : State) : (yieldIdle s).cfg = s.cfg := rfl
@[simp] theorem yieldIdle_mode (s : State) : (yieldIdle s).mode = s.mode := rfl
@[simp] theorem yieldIdle_fault (s : State) : (yieldIdle s).fault = s.fault := rfl
@[simp] theorem yieldIdle_hueOffset (s : State) : (yieldIdle s).hueOffset = s.hueOffset := rfl
@[simp] theorem yieldIdle_heartbeatOn (s : State) : (yieldIdle s).heartbeatOn = s.heartbeatOn := rfl
@[simp] theorem yieldIdle_pinLevel (s : State) : (yieldIdle s).pinLevel = s.pinLevel := rfl
@[simp] theorem yieldIdle_lastHue (s : State) : (yieldIdle s).lastHue = s.lastHue := rfl
@[simp] theorem yieldIdle_lastHb (s : State) : (yieldIdle s).lastHb = s.lastHb := rfl
@[simp] theorem yieldIdle_lastFrame (s : State) : (yieldIdle s).lastFrame = s.lastFrame := rfl
@[simp] theorem yieldIdle_buf (s : State) : (yieldIdle s).buf = s.buf := rfl
@[simp] theorem yieldIdle_hsvIn (s : State) : (yieldIdle s).hsvIn = s.hsvIn := rfl
@[simp] theorem yieldIdle_rgbaOut (s : State) : (yieldIdle s).rgbaOut = s.rgbaOut := rfl
@[simp] theorem yieldIdle_now (s : State) : (yieldIdle s).now = s.now := rfl
@[simp] theorem yieldIdle_pinAckHb (s : State) : (yieldIdle s).pinAckHb = s.pinAckHb := rfl
@[simp] theorem yieldIdle_pinAckData (s : State) : (yieldIdle s).pinAckData = s.pinAckData := rfl
@[simp] theorem yieldIdle_sinkStatus (s : State) : (yieldIdle s).sinkStatus = s.sinkStatus := rfl
@[simp] theorem yieldIdle_events (s : State) : (yieldIdle s).events = s.events ++ [.yield] := rfl
@[simp] theorem yieldIdle_inputs (s : State) : (yieldIdle s).inputs = s.inputs := rfl
@[simp] theorem yieldIdle_drawn (s : State) : (yieldIdle s).drawn = s.drawn := rfl

/-! ### toggleHeartbeat -/

@[simp] theorem toggleHeartbeat_cfg (s : State) : (toggleHeartbeat s).cfg = s.cfg := by
  unfold toggleHeartbeat; split <;> rfl
@[simp] theorem toggleHeartbeat_mode (s : State) : (toggleHeartbeat s).mode = s.mode := by
  unfold toggleHeartbeat; split <;> rfl
@[simp] theorem toggleHeartbeat_fault (s : State) : (toggleHeartbeat s).fault = s.fault := by
  unfold toggleHeartbeat; split <;> rfl
@[simp] theorem toggleHeartbeat_hueOffset (s : State) : (toggleHeartbeat s).hueOffset = s.hueOffset := by
  unfold toggleHeartbeat; split <;> rfl
@[simp] theorem toggleHeartbeat_heartbeatOn (s : State) : (toggleHeartbeat s).heartbeatOn = !s.heartbeatOn := by
  unfold toggleHeartbeat; split <;> simp_all
@[simp] theorem toggleHeartbeat_pinLevel (s : State) : (toggleHeartbeat s).pinLevel = if s.heartbeatOn then .low else .high := by
  unfold toggleHeartbeat; split <;> simp_all
@[simp] theorem toggleHeartbeat_lastHue (s : State) : (toggleHeartbeat s).lastHue = s.lastHue := by
  unfold toggleHeartbeat; split <;> rfl
@[simp] theorem toggleHeartbeat_lastHb (s : State) : (toggleHeartbeat s).lastHb = s.lastHb := by
  unfold toggleHeartbeat; split <;> rfl
@[simp] theorem toggleHeartbeat_lastFrame (s : State) : (toggleHeartbeat s).lastFrame = s.lastFrame := by
  unfold toggleHeartbeat; split <;> rfl
@[simp] theorem toggleHeartbeat_buf (s : State) : (toggleHeartbeat s).buf = s.buf := by
  unfold toggleHeartbeat; split <;> rfl
@[simp] theorem toggleHeartbeat_hsvIn (s : State) : (toggleHeartbeat s).hsvIn = s.hsvIn := by
  unfold toggleHeartbeat; split <;> rfl
@[simp] theorem toggleHeartbeat_rgbaOut (s : State) : (toggleHeartbeat s).rgbaOut = s.rgbaOut := by
  unfold toggleHeartbeat; split <;> rfl
@[simp] theorem toggleHeartbeat_now (s : State) : (toggleHeartbeat s).now = s.now := by
  unfold toggleHeartbeat; split <;> rfl
@[simp] theorem toggleHeartbeat_pinAckHb (s : State) : (toggleHeartbeat s).pinAckHb = s.pinAckHb := by
  unfold toggleHeartbeat; split <;> rfl
@[simp] theorem toggleHeartbeat_pinAckData (s : State) : (toggleHeartbeat s).pinAckData = s.pinAckData := by
  unfold toggleHeartbeat; split <;> rfl
@[simp] theorem toggleHeartbeat_sinkStatus (s : State) : (toggleHeartbeat s).sinkStatus = s.sinkStatus := by
  unfold toggleHeartbeat; split <;> rfl
@[simp] theorem toggleHeartbeat_events (s : State) : (toggleHeartbeat s).events = s.events ++ [.pinLevel (if s.heartbeatOn then .low else .high)] := by
  unfold toggleHeartbeat; split <;> simp_all
@[simp] theorem toggleHeartbeat_inputs (s : State) : (toggleHeartbeat s).inputs = s.inputs := by
  unfold toggleHeartbeat; split <;> rfl
@[simp] theorem toggleHeartbeat_drawn (s : State) : (toggleHeartbeat s).drawn = s.drawn := by
  unfold toggleHeartbeat; split <;> rfl

end Sys2Proof.Machine
end

