-- ==== Sys2Proof/Laws/Scheduler.lean ====
section
/-! SUPPORT. What each shared operation of the FrameGenerator and the Scheduler can do, said once: if it answers a next state, then it is this one. -/

namespace Sys2Proof.Machine

/-! ### Outcomes -/

/-- `andThen` answers a next state exactly when both parts do. -/
theorem andThen_next {o : Host.Outcome State Fault Refusal} {f : State → Host.Outcome State Fault Refusal} {t : State} :
    andThen o f = .next t ↔ ∃ u, o = .next u ∧ f u = .next t := by
  cases o <;> simp [andThen]

/-! ### The frame -/

/-- A legal constant is an 8-bit operand (40_color_transform.md R104). -/
theorem svOperand_of_le {k : Nat} (h : k ≤ 255) : svOperand k = some (BitVec.ofNat 8 k) := if_pos h

/-- A constant outside 0..255 is none. -/
theorem svOperand_of_gt {k : Nat} (h : ¬ k ≤ 255) : svOperand k = none := if_neg h

/-- The buffer after a fill of `s` with legal constants. -/
def filledBuf (s : State) : Memory :=
  fillMemory s.cfg s.hueOffset (BitVec.ofNat 8 s.cfg.satK) (BitVec.ofNat 8 s.cfg.valK) s.buf

/-- fillRainbow on legal constants (41_frame_generator.md R121). -/
theorem fillRainbow_of_legal {s : State} (h : svLegal s.cfg) : fillRainbow s = .next (setBuf (filledBuf s) s) := by
  unfold fillRainbow
  rw [svOperand_of_le h.1, svOperand_of_le h.2]
  rfl

/-- fillRainbow refuses other constants (40_color_transform.md R104). -/
theorem fillRainbow_of_not_legal {s : State} (h : ¬ svLegal s.cfg) : fillRainbow s = .refused .svOutOfRange := by
  unfold fillRainbow
  by_cases h1 : s.cfg.satK ≤ 255
  · have h2 : ¬ s.cfg.valK ≤ 255 := fun h2 => h ⟨h1, h2⟩
    rw [svOperand_of_gt h2]; split <;> simp_all
  · rw [svOperand_of_gt h1]

/-- What the transfer of a freshly filled buffer answers (20_memory.md R42, R45). -/
theorem transferFrame_filled (s : State) :
    transferFrame (setBuf (filledBuf s) s) =
      .next (emit (.sinkWrite (frameRecords s.cfg s.hueOffset)) (setBuf (filledBuf s) s)) := by
  unfold transferFrame
  rw [setBuf_cfg, setBuf_buf, filledBuf, readAll_fillMemory]
  rfl

/-- The state after a frame (42_scheduler.md R138). -/
def rendered (s : State) : State := emit (.sinkWrite (frameRecords s.cfg s.hueOffset)) (setBuf (filledBuf s) s)

/-- renderFrame on legal constants. -/
theorem renderFrame_of_legal {s : State} (h : svLegal s.cfg) : renderFrame s = .next (rendered s) := by
  unfold renderFrame
  rw [fillRainbow_of_legal h]
  exact transferFrame_filled s

/-- renderFrame answers a next state only on legal constants, and then this one. -/
theorem renderFrame_next {s t : State} (h : renderFrame s = .next t) : svLegal s.cfg ∧ t = rendered s := by
  by_cases hl : svLegal s.cfg
  · rw [renderFrame_of_legal hl] at h
    exact ⟨hl, (Host.Outcome.next.inj h).symm⟩
  · rw [renderFrame, fillRainbow_of_not_legal hl] at h
    cases h

/-! ### START -/

/-- What a legal configuration gives every later proof: periods in 1..2^31 and 8-bit constants (42_scheduler.md R131). -/
theorem configValid_bounds {c : Configuration} (h : configValid c = true) :
    (1 ≤ c.huePeriod ∧ c.huePeriod ≤ 2147483648) ∧ (1 ≤ c.hbPeriod ∧ c.hbPeriod ≤ 2147483648) ∧
    (1 ≤ c.framePeriod ∧ c.framePeriod ≤ 2147483648) ∧ svLegal c := by
  obtain ⟨h1, h2, h3, -, h4, h5, -⟩ := of_decide_eq_true h
  exact ⟨h1, h2, h3, h4, h5⟩

/-- What START can answer: a configuration error, a failure of the first pin, of the second, or RUNNING
(42_scheduler.md R131). -/
theorem execStart_next {s t : State} (h : execStart s = .next t) : s.mode = .reset ∧
    ((configValid s.cfg = false ∧ t = raiseFault .configError s) ∨
     (configValid s.cfg = true ∧ s.pinAckHb = .fail ∧ t = raiseFault .pinConfigError (emit (.pinConfig .hbPin) s)) ∨
     (configValid s.cfg = true ∧ s.pinAckHb = .ok ∧ s.pinAckData = .fail ∧
       t = raiseFault .pinConfigError (emit (.pinConfig .dataPin) (emit (.pinConfig .hbPin) s))) ∨
     (configValid s.cfg = true ∧ s.pinAckHb = .ok ∧ s.pinAckData = .ok ∧
       t = enterRunning (emit (.pinConfig .dataPin) (emit (.pinConfig .hbPin) s)))) := by
  unfold execStart at h
  split at h
  · refine ⟨‹_›, ?_⟩
    split at h
    · injection h with h; subst h
      cases h1 : s.pinAckHb <;> cases h2 : s.pinAckData <;>
        simp_all [configurePins, configureDataPin]
    · injection h with h; subst h; left; simp_all
  · cases h

/-! ### The triggers -/

/-- The due test as a comparison (42_scheduler.md R133). -/
theorem isDue_iff (p : Nat) (e : Time) : isDue p e = true ↔ p ≤ e.toNat := decide_eq_true_iff

/-- The elapsed time as a natural: the difference modulo 2^32 (42_scheduler.md R132). -/
theorem elapsed_toNat (t last : Time) : (elapsed t last).toNat = (2 ^ 32 - last.toNat + t.toNat) % 2 ^ 32 :=
  BitVec.toNat_sub ..

/-- The moved anchor as a natural (42_scheduler.md R134). -/
theorem anchorAfter_toNat (last : Time) (p : Nat) (e : Time) :
    (anchorAfter last p e).toNat = (last.toNat + p * (e.toNat / p)) % 2 ^ 32 := BitVec.toNat_ofNat ..

/-! ### ITERATE -/

/-- The bits of DUE3 are the three due tests (30_encoding.md R64). -/
theorem dueVector_bits (s : State) : (dueVector s).getLsbD 2 = dueHue s ∧ (dueVector s).getLsbD 1 = dueHb s ∧
    (dueVector s).getLsbD 0 = dueFrame s ∧
    (dueVector s = 0b000#3 ↔ dueHue s = false ∧ dueHb s = false ∧ dueFrame s = false) := by
  unfold dueVector
  cases dueHue s <;> cases dueHb s <;> cases dueFrame s <;> decide

/-- The state after the hue and heartbeat parts of an iteration (42_scheduler.md R135). -/
def afterHb (s : State) : State := iterateHb (dueVector s) (iterateHue (dueVector s) s)

/-- ITERATE by its due frame and its due vector. -/
theorem execIterate_of_running {s : State} (h : s.mode = .running) :
    execIterate s =
      if dueFrame s then renderFrame (fireFrame (afterHb s))
      else if dueHue s || dueHb s then .next (afterHb s)
      else .next (yieldIdle (afterHb s)) := by
  obtain ⟨-, -, h0, hz⟩ := dueVector_bits s
  rw [execIterate, if_pos h, iterateFrame, h0]
  cases hf : dueFrame s
  · rw [hf] at hz
    simp only [Bool.false_eq_true, if_false]
    have hz' : dueVector s = 0b000#3 ↔ ¬ (dueHue s || dueHb s) = true := by
      rw [hz]; cases dueHue s <;> cases dueHb s <;> decide
    by_cases hany : (dueHue s || dueHb s) = true
    · rw [if_neg (fun e => hz'.1 e hany), if_pos hany]; rfl
    · rw [if_pos (hz'.2 hany), if_neg hany]; rfl
  · rfl

/-- What ITERATE can answer (42_scheduler.md R135): it was RUNNING, and the frame part rendered, did nothing, or yielded. -/
theorem execIterate_next {s t : State} (h : execIterate s = .next t) : s.mode = .running ∧
    ((dueFrame s = true ∧ svLegal (fireFrame (afterHb s)).cfg ∧ t = rendered (fireFrame (afterHb s))) ∨
     (dueFrame s = false ∧ (dueHue s || dueHb s) = true ∧ t = afterHb s) ∨
     (dueFrame s = false ∧ (dueHue s || dueHb s) = false ∧ t = yieldIdle (afterHb s))) := by
  have hr : s.mode = .running := by
    by_contra hc; rw [execIterate, if_neg hc] at h; cases h
  refine ⟨hr, ?_⟩
  rw [execIterate_of_running hr] at h
  split at h
  · have := renderFrame_next h; exact .inl ⟨‹_›, this⟩
  · split at h
    · exact .inr (.inl ⟨by simp_all, ‹_›, (Host.Outcome.next.inj h).symm⟩)
    · exact .inr (.inr ⟨by simp_all, by simp_all, (Host.Outcome.next.inj h).symm⟩)

/-- The toggle as one update (42_scheduler.md R137). -/
theorem toggleHeartbeat_eq (s : State) : toggleHeartbeat s = { s with
    heartbeatOn := !s.heartbeatOn
    pinLevel := if s.heartbeatOn then .low else .high
    events := s.events ++ [.pinLevel (if s.heartbeatOn then .low else .high)] } := by
  unfold toggleHeartbeat
  cases h : s.heartbeatOn <;> rfl

/-- The hue and heartbeat parts of an iteration, field by field (42_scheduler.md R135 to R137): everything they can change. -/
theorem afterHb_eq (s : State) : afterHb s = { s with
    hueOffset := if dueHue s then BitVec.ofNat 8 ((s.hueOffset.toNat + 1) % Config.hueDomain) else s.hueOffset
    heartbeatOn := if dueHb s then !s.heartbeatOn else s.heartbeatOn
    pinLevel := if dueHb s then (if s.heartbeatOn then .low else .high) else s.pinLevel
    lastHue := if dueHue s then anchorAfter s.lastHue s.cfg.huePeriod (elapsedHue s) else s.lastHue
    lastHb := if dueHb s then anchorAfter s.lastHb s.cfg.hbPeriod (elapsedHb s) else s.lastHb
    events := s.events ++
      (if dueHb s then [.pinLevel (if s.heartbeatOn then .low else .high)] else []) } := by
  obtain ⟨h2, h1, -, -⟩ := dueVector_bits s
  unfold afterHb iterateHb iterateHue
  rw [h2, h1]
  cases dueHue s <;> cases dueHb s
  · simp
  · simp only [toggleHeartbeat_eq]; rfl
  · simp; rfl
  · simp only [toggleHeartbeat_eq]; rfl

end Sys2Proof.Machine
end

