-- ==== Sys2Proof/Laws/Step.lean ====
section
/-! SUPPORT. What a step can do, said once, and the runs of Scheduler steps it makes. -/

namespace Sys2Proof.Machine

/-- What a step can answer: a reset event was taken; or the block was in RESET and did a START; or RUNNING and did an ITERATE; or a
word on `hsv_in` was decoded and executed (30_encoding.md R60). -/
theorem step_next {s t : State} (h : step s = .next t) :
    (nextStimulus s = .rst ∧ t = resetEvent (consume s)) ∨
    (∃ n a b k, nextStimulus s = .activate n a b k ∧ s.mode = .reset ∧
      execStart (present n a b k (consume s)) = .next t) ∨
    (∃ n a b k, nextStimulus s = .activate n a b k ∧ s.mode = .running ∧
      execIterate (present n a b k (consume s)) = .next t) ∨
    (∃ w, nextStimulus s = .hsvIn w ∧ exec (decodeHsv24 w) (consume s) = .next t) := by
  unfold step at h
  split at h
  · exact .inl ⟨‹_›, (Host.Outcome.next.inj h).symm⟩
  · unfold scheduleStep at h
    rw [present_mode, consume_mode] at h
    cases hm : s.mode <;> rw [hm] at h
    · exact .inr (.inl ⟨_, _, _, _, ‹_›, rfl, h⟩)
    · exact .inr (.inr (.inl ⟨_, _, _, _, ‹_›, rfl, h⟩))
    · cases h
  · exact .inr (.inr (.inr ⟨_, ‹_›, h⟩))

/-- A sextant form drives its word on `hsv_in`, and `rgba_out` is `hsvToRgb` of the word's fields (10_state.md R32). -/
theorem exec_decodeHsv24 (w : Hsv24) (s : State) :
    exec (decodeHsv24 w) s = .next (drivePorts w (hsvToRgb s.cfg (fieldH w) (fieldS w) (fieldV w)) s) := by
  unfold decodeHsv24
  rcases rawOf_cases (fieldH w) with ⟨g, e⟩ | ⟨g, e⟩ | ⟨g, e⟩ | ⟨g, e⟩ | ⟨g, e⟩ | ⟨g, e⟩ | ⟨g, e⟩ | ⟨g, e⟩ <;>
    · have hw := (formWord_eq g (fieldS w) (fieldV w)).trans (hsv24_fields w)
      rw [g, hsvToRgb, e]
      exact congrArg (fun x => Host.Outcome.next (drivePorts x _ s)) hw

/-- Taking a stimulus that is next in the list. -/
theorem nextStimulus_push (x : Stimulus) (xs : List Stimulus) (s : State) :
    nextStimulus { s with inputs := x :: xs } = x := rfl

/-- A run of any machine goes on from the state its first step answers. -/
theorem coreRun_of_next (M : Host.Core) {s t : M.State} (h : M.step s = .next t) (k : Nat) :
    M.run (k + 1) s = M.run k t := by
  simp only [Host.Core.run, h]

/-- A run of any machine that answers a state had a first step that answered one. -/
theorem coreRun_next (M : Host.Core) {k : Nat} {s t : M.State} (h : M.run (k + 1) s = .next t) :
    ∃ u, M.step s = .next u ∧ M.run k u = .next t := by
  simp only [Host.Core.run] at h
  cases e : M.step s with
  | next u => rw [e] at h; exact ⟨u, rfl, h⟩
  | fault r => rw [e] at h; cases h
  | refused r => rw [e] at h; cases h

/-- A run goes on from the state its first step answers. -/
theorem run_of_next {s t : State} (h : step s = .next t) (k : Nat) :
    Host.Core.run core (k + 1) s = Host.Core.run core k t := coreRun_of_next core h k

/-- A run that answers a state had a first step that answered one. -/
theorem run_next {k : Nat} {s t : State} (h : Host.Core.run core (k + 1) s = .next t) :
    ∃ u, step s = .next u ∧ Host.Core.run core k u = .next t := coreRun_next core h

/-- The run of no step. -/
theorem run_zero (s : State) : Host.Core.run core 0 s = .next s := rfl

/-- The first step of a running block with Scheduler steps ahead is the iteration with the first draws. -/
theorem step_withDraws {s : State} (h : s.mode = .running) (d : Draws) (ds : List Draws) :
    step (s.withDraws (d :: ds)) =
      execIterate (present d.now d.ackHb d.ackData d.sink { s.withDraws ds with drawn := s.drawn + 1 }) := by
  have hn : nextStimulus (s.withDraws (d :: ds)) = .activate d.now d.ackHb d.ackData d.sink := rfl
  unfold step
  rw [hn]
  simp only [scheduleStep, present_mode, consume_mode]
  have hm : (s.withDraws (d :: ds)).mode = .running := h
  rw [hm]
  rfl

end Sys2Proof.Machine
end

