-- ==== Sys2Proof/Tests/Slice0.lean ====
section
/-! SUPPORT. The model's own tests: words written out from the encodings, the well-formedness smoke test, vectors of 95_test_vectors.md on one step each, and a witness for the hypotheses of each statement. -/

namespace Sys2Proof.Tests

open Sys2Proof.Machine

/-! ### Helpers -/

/-- The next state of an outcome. -/
def got (o : Host.Outcome State Fault Refusal) : Option State :=
  match o with
  | .next s => some s
  | .fault _ => none
  | .refused _ => none

/-- The reference block after power-on, with stimuli ahead. -/
def fresh (xs : List Stimulus) : State := { State.reset with inputs := xs }

/-- The reference block in RUNNING, all anchors 0, at the sampled time `t`. -/
def runningAt (t : Time) : State := { State.reset with mode := .running, now := t }

/-- The reference block in HALTED, with stimuli ahead. -/
def halted (xs : List Stimulus) : State := raiseFault .configError (fresh xs)

/-- A configuration of 95_test_vectors.md section 2.6: off is in the state. -/
def fillState (off : Byte) (step n sat val : Nat) (z : VsZero) : State :=
  { State.reset with
    hueOffset := off
    cfg := { Config.reference with step := step, n := n, satK := sat, valK := val, vsZero := z } }

/-- The records a fill leaves. -/
def filled (s : State) : Option (List Rgba32) := (got (exec .fillRainbow s)).bind fun t => Memory.readAll t.cfg.n t.buf

/-- FG0 (95_test_vectors.md 2.6). -/
def fg0 : List Rgba32 :=
  [0xFF0000FF#32, 0xBD4200FF#32, 0xAB8400FF#32, 0x71C700FF#32, 0x00F50AFF#32,
    0x00B24DFF#32, 0x0037C9FF#32, 0x2700D8FF#32, 0x6A0096FF#32, 0xAC0053FF#32]

/-- FG1 (95_test_vectors.md 2.6). -/
def fg1 : List Rgba32 :=
  [0xFD0200FF#32, 0xBA4500FF#32, 0xAB8700FF#32, 0x6CC900FF#32, 0x00F20DFF#32,
    0x00B04FFF#32, 0x0031CFFF#32, 0x2A00D5FF#32, 0x6C0094FF#32, 0xAF0050FF#32]

/-! ### Decoding: words written out bit by bit from 30_encoding.md R61, R62, R64, R68, R69 -/

theorem test_decode_s0 : decodeTableWord 24 0b000_10000_11111111_10000000 = some (.hsv2rgbS0 16#8 255#8 128#8) := by decide
theorem test_decode_s1 : decodeTableWord 24 0b001_10000_11111111_10000000 = some (.hsv2rgbS1 48#8 255#8 128#8) := by decide
theorem test_decode_s2 : decodeTableWord 24 0b010_10000_00000001_11111111 = some (.hsv2rgbS2 80#8 1#8 255#8) := by decide
theorem test_decode_s3 : decodeTableWord 24 0b011_00000_11111111_11111111 = some (.hsv2rgbS3 96#8 255#8 255#8) := by decide
theorem test_decode_s4 : decodeTableWord 24 0b100_11111_00000000_00000001 = some (.hsv2rgbS4 159#8 0#8 1#8) := by decide
theorem test_decode_s5 : decodeTableWord 24 0b101_00000_11111110_11111111 = some (.hsv2rgbS5 160#8 254#8 255#8) := by decide
theorem test_decode_s6 : decodeTableWord 24 0b110_01000_01001101_00100001 = some (.hsv2rgbS6 200#8 77#8 33#8) := by decide
theorem test_decode_s7 : decodeTableWord 24 0b111_11111_11111111_00000001 = some (.hsv2rgbS7 255#8 255#8 1#8) := by decide
/-- The row HSV2RGB has the same words: the decoder answers the form of its guard (R68). -/
theorem test_decode_hsv2rgb : decode (encode (.hsv2rgb 25#8 255#8 254#8)) = .ok (.hsv2rgbS0 25#8 255#8 254#8) := by decide
theorem test_decode_hue : decodeTableWord 8 0b100 = some .hueAdvance := by decide
theorem test_decode_hb : decodeTableWord 8 0b010 = some .hbToggle := by decide
theorem test_decode_frame : decodeTableWord 8 0b001 = some .frameRender := by decide
theorem test_decode_yield : decodeTableWord 8 0b000 = some .idleYield := by decide
/-- Several bits select several actions, in order (R69). -/
theorem test_decode_coincident : decodeDue3 0b101#3 = [.hueAdvance, .frameRender] := by decide
/-- START, ITERATE and FILL_RAINBOW: no bits; the mode selects the first two (R60, R69). -/
theorem test_no_bits : decode [] = .error .noSelectingBits ∧ selectByMode .reset = some .start ∧
    selectByMode .running = some .iterate ∧ selectByMode .halted = none ∧ encode .fillRainbow = [] := by decide
theorem test_reject_high_bits : decode [8#8] = .error (.due3HighBits 8#8) := by decide
theorem test_reject_two_bytes : decode [0#8, 0#8] = .error (.noSuchFormat 2) := by decide

/-! ### Well-formedness: each check refuses an ill-formed term -/

theorem smoke_s0 : wellFormed (.hsv2rgbS0 32#8 0#8 0#8) = false := by decide
theorem smoke_s1 : wellFormed (.hsv2rgbS1 31#8 0#8 0#8) = false := by decide
theorem smoke_s2 : wellFormed (.hsv2rgbS2 96#8 0#8 0#8) = false := by decide
theorem smoke_s3 : wellFormed (.hsv2rgbS3 95#8 0#8 0#8) = false := by decide
theorem smoke_s4 : wellFormed (.hsv2rgbS4 160#8 0#8 0#8) = false := by decide
theorem smoke_s5 : wellFormed (.hsv2rgbS5 159#8 0#8 0#8) = false := by decide
theorem smoke_s6 : wellFormed (.hsv2rgbS6 224#8 0#8 0#8) = false := by decide
theorem smoke_s7 : wellFormed (.hsv2rgbS7 223#8 0#8 0#8) = false := by decide

/-! ### One step each: vectors of 95_test_vectors.md -/

/-- The color one operation answers on a block with the given SV_MODE and VS_ZERO. -/
def colorOf (m : SvMode) (z : VsZero) (i : Instr) : Option Rgba32 :=
  (got (exec i { State.reset with cfg := { Config.reference with svMode := m, vsZero := z } })).map (·.rgbaOut)

-- 2.2 and 2.4; the second of each pair where a zero channel, s = 1, s = 254 or v = 1 is at stake
theorem test_s0 : colorOf .general .lift (.hsv2rgbS0 25#8 255#8 255#8) = some 0xBD4200FF#32 := by decide
theorem test_s0_keep : colorOf .general .keep (.hsv2rgbS0 0#8 128#8 255#8) = some 0xFF7F7FFF#32 := by decide
theorem test_s1 : colorOf .general .lift (.hsv2rgbS1 48#8 255#8 255#8) = some 0xAB7F00FF#32 := by decide
theorem test_s1_black : colorOf .general .lift (.hsv2rgbS1 37#8 0#8 0#8) = some 0x000000FF#32 := by decide
theorem test_s2 : colorOf .general .lift (.hsv2rgbS2 75#8 255#8 255#8) = some 0x71C700FF#32 := by decide
theorem test_s2_dim : colorOf .general .lift (.hsv2rgbS2 64#8 100#8 1#8) = some 0x010101FF#32 := by decide
theorem test_s3 : colorOf .general .lift (.hsv2rgbS3 100#8 255#8 255#8) = some 0x00F50AFF#32 := by decide
theorem test_s3_gray : colorOf .general .lift (.hsv2rgbS3 96#8 0#8 200#8) = some 0xC8C8C8FF#32 := by decide
theorem test_s4 : colorOf .general .lift (.hsv2rgbS4 150#8 255#8 255#8) = some 0x0037C9FF#32 := by decide
theorem test_s4_both : colorOf .general .lift (.hsv2rgbS4 128#8 200#8 100#8) = some 0x164A30FF#32 := by decide
theorem test_s5 : colorOf .general .lift (.hsv2rgbS5 175#8 255#8 255#8) = some 0x2700D8FF#32 := by decide
theorem test_s5_pale : colorOf .general .lift (.hsv2rgbS5 160#8 1#8 255#8) = some 0xFFFFFFFF#32 := by decide
theorem test_s6 : colorOf .general .lift (.hsv2rgbS6 200#8 77#8 33#8) = some 0x1C181DFF#32 := by decide
theorem test_s6_bypass : colorOf .bypass .lift (.hsv2rgbS6 200#8 77#8 33#8) = some 0x6A0096FF#32 := by decide
theorem test_s7 : colorOf .general .lift (.hsv2rgbS7 240#8 255#8 255#8) = some 0xD4002BFF#32 := by decide
theorem test_s7_keep : colorOf .general .keep (.hsv2rgbS7 255#8 255#8 1#8) = some 0x010001FF#32 := by decide
theorem test_hsv2rgb : colorOf .general .lift (.hsv2rgb 25#8 255#8 254#8) = some 0xBC4201FF#32 := by decide
theorem test_hsv2rgb_keep : colorOf .general .keep (.hsv2rgb 200#8 77#8 33#8) = some 0x1C171DFF#32 := by decide

/-- FG2: the hue wraps, STEP above 255. -/
theorem test_fill_wraps : filled (fillState 250#8 300 4 255 255 .lift) =
    some [0xEF0010FF#32, 0xAB6400FF#32, 0x4CD900FF#32, 0x00B04FFF#32] := by decide
/-- FG7 under KEEP. -/
theorem test_fill_keep : filled (fillState 0#8 25 3 128 128 .keep) =
    some [0x804040FF#32, 0x705140FF#32, 0x6B6240FF#32] := by decide

/-- 2.9, first row: START at time 7. -/
theorem test_start : (got (exec .start { State.reset with now := 7#32 })).map
    (fun t => (((t.mode, t.fault), (t.hueOffset, t.heartbeatOn)), ((t.lastHue, t.lastHb, t.lastFrame), t.events))) =
    some (((.running, .none), (0#8, false)), ((7#32, 7#32, 7#32), [.pinConfig .hbPin, .pinConfig .dataPin])) := by decide
/-- 2.9: HB_PERIOD = 2^31 + 1 is a configuration error, with no event. -/
theorem test_start_config : (got (exec .start
    { State.reset with cfg := { Config.reference with hbPeriod := 2147483649 } })).map
    (fun t => (t.mode, t.fault.code, t.events)) = some (.halted, 1, []) := by decide
/-- R135's worked example: at 40 the hue and the frame are due; the frame has the advanced offset (P1 at 40). -/
theorem test_iterate : (got (exec .iterate (runningAt 40#32))).map
    (fun t => (t.hueOffset, t.lastHue, t.lastHb, t.lastFrame, t.events)) =
    some (1#8, 40#32, 0#32, 40#32, [.sinkWrite fg1]) := by decide
/-- P4: all three coincide after a long stall and each fires once. -/
theorem test_iterate_all : (got (exec .iterate (runningAt 2560#32))).map
    (fun t => ((t.hueOffset, t.heartbeatOn), (t.lastHue, t.lastHb, t.lastFrame, t.events))) =
    some ((1#8, true), (2560#32, 2560#32, 2560#32, [.pinLevel .high, .sinkWrite fg1])) := by decide
/-- 2.8: 255 becomes 0. -/
theorem test_hue_wraps : (got (exec .hueAdvance { State.reset with hueOffset := 255#8 })).map (·.hueOffset) = some 0#8 := by decide
/-- 2.8: the toggle from on drives LOW. -/
theorem test_hb_low : (got (exec .hbToggle { State.reset with heartbeatOn := true, pinLevel := .high })).map
    (fun t => (t.heartbeatOn, t.pinLevel, t.events)) = some (false, .low, [.pinLevel .low]) := by decide
/-- 2.8: the frame of FG0, with a sink error. -/
theorem test_frame : (got (exec .frameRender { State.reset with sinkStatus := .error })).map (·.events) =
    some [.sinkWrite fg0] := by decide
/-- 2.8: the yield changes nothing else. -/
theorem test_yield : got (exec .idleYield (runningAt 10#32)) = some { runningAt 10#32 with events := [.yield] } := by decide

/-- 2.7: across the wrap, the longest period, and time going backwards. -/
theorem test_anchors : isDue 40 (elapsed 0x18#32 0xFFFFFFF0#32) = true ∧ isDue 40 (elapsed 0x10#32 0xFFFFFFF0#32) = false ∧
    anchorAfter 0#32 2147483648 (elapsed 0x80000000#32 0#32) = 0x80000000#32 ∧
    anchorAfter 5#32 40 (elapsed 4#32 5#32) = 0xFFFFFFF5#32 := by decide

/-- P1's last line: the frame of 512 leaves its anchor at 500; R133 then makes 520 due, 8 after that frame (log 18). -/
theorem test_late_frame : anchorAfter 60#32 20 (elapsed 512#32 60#32) = 500#32 ∧ isDue 20 (elapsed 519#32 500#32) = false ∧
    isDue 20 (elapsed 520#32 500#32) = true := by decide

/-- A DUE3 vector placed on the fresh block: the very next step iterates with it. -/
theorem test_placed_due3 : (got (step (State.reset.withFetchWord 8 0b110))).map
    (fun t => (t.mode, t.hueOffset, t.heartbeatOn, t.events)) = some (.running, 1#8, true, [.pinLevel .high]) := by decide
/-- No bits placed on the fresh block: the very next step is START. -/
theorem test_placed_start : (got (step (State.reset.withFetchWord 0 0))).map (·.mode) = some .running := by decide
/-- A word placed on the fresh block: the very next step answers its color, and START is still to come. -/
theorem test_placed_word : (got (step (State.reset.withFetchWord 24 0x19FFFF))).map (fun t => (t.rgbaOut, t.mode)) =
    some (0xBD4200FF#32, .reset) := by decide

/-! ### Witnesses: for each statement with hypotheses, values that meet them together -/

theorem witness_DecodeOfEncodeIsTheOperation : wellFormed (.hsv2rgbS3 127#8 1#8 2#8) = true := by decide
theorem witness_StepRunsTheSelectedOperation :
    (nextStimulus (fresh [.hsvIn 0x19FFFF#24]) = .hsvIn 0x19FFFF#24 ∧
      decode (hsv24Bytes 0x19FFFF#24) = .ok (.hsv2rgbS0 25#8 255#8 255#8) ∧
      wellFormed (.hsv2rgbS0 25#8 255#8 255#8) = true) ∧
    (nextStimulus (fresh [.activate 1#32 .ok .ok .ok]) = .activate 1#32 .ok .ok .ok ∧ (fresh []).mode = .reset) ∧
    (nextStimulus { runningAt 0#32 with inputs := [.activate 1#32 .ok .ok .ok] } = .activate 1#32 .ok .ok .ok ∧
      (runningAt 0#32).mode = .running) := by decide
theorem witness_PlacedWordRunsNext :
    decodeTableWord 24 0xFFFFFF = some (.hsv2rgbS7 255#8 255#8 255#8) ∧ configValid State.reset.cfg = true := by decide
theorem witness_RampsRiseToTheirEnds : (0#5 ≠ 31#5) ∧ third (0#5 + 1#5) = third 0#5 + 2 ∧ third (30#5 + 1#5) = third 30#5 + 3 := by
  decide
theorem witness_FormS0RedToOrange : hueGuard 0#8 = 0b000#3 ∧ hueGuard 31#8 = 0b000#3 := by decide
theorem witness_FormS1OrangeToYellow : hueGuard 32#8 = 0b001#3 ∧ hueGuard 63#8 = 0b001#3 := by decide
theorem witness_FormS2YellowToGreen : hueGuard 64#8 = 0b010#3 ∧ hueGuard 95#8 = 0b010#3 := by decide
theorem witness_FormS3GreenToAqua : hueGuard 96#8 = 0b011#3 ∧ hueGuard 127#8 = 0b011#3 := by decide
theorem witness_FormS4AquaToBlue : hueGuard 128#8 = 0b100#3 ∧ hueGuard 159#8 = 0b100#3 := by decide
theorem witness_FormS5BlueToPurple : hueGuard 160#8 = 0b101#3 ∧ hueGuard 191#8 = 0b101#3 := by decide
theorem witness_FormS6PurpleToPink : hueGuard 192#8 = 0b110#3 ∧ hueGuard 223#8 = 0b110#3 := by decide
theorem witness_FormS7PinkToRed : hueGuard 224#8 = 0b111#3 ∧ hueGuard 255#8 = 0b111#3 := by decide
theorem witness_WholeTransformRunsItsForm : Config.reference.svMode = .general ∧
    ({ Config.reference with svMode := .bypass }).svMode = .bypass := by decide
theorem witness_ScaleStaysBelowFull : (255 ≤ 255 ∧ scale8 255 255 = 254) ∧ scale8 255 254 = 253 := by decide
theorem witness_VideoScaleRoundingCorners : (0 < 1 ∧ 1 < 255 ∧ vscale .lift 0 1 = 1) ∧ vscale .keep 0 254 = 0 ∧
    vscale .lift 200 255 = 199 := by decide
theorem witness_SaturationStepOnAChannel : (1 ≤ 1 ∧ 1 ≤ 254 ∧ satChannel .lift 1 0 = 255) ∧
    (1 ≤ 254 ∧ 254 ≤ 254 ∧ satChannel .keep 254 0 = 1) := by decide
theorem witness_ValueStepOnAChannel : (1 ≤ 1 ∧ 1 ≤ 254 ∧ valChannel .lift 1 0 = 1) ∧
    (1 ≤ 254 ∧ 254 ≤ 254 ∧ valChannel .lift 254 255 = 254) := by decide
theorem witness_CollapseToBlackAndGray : Config.reference.svMode = .general ∧
    hsvToRgb Config.reference 96#8 0#8 200#8 = 0xC8C8C8FF#32 ∧
    hsvToRgb { Config.reference with svMode := .bypass } 96#8 0#8 200#8 = 0x00FF00FF#32 := by decide
theorem witness_SextantBoundariesWithinSeven : hueOffset5 95#8 = 31#5 ∧ hueOffset5 255#8 = 31#5 := by decide
theorem witness_FillWritesEveryPixel : svLegal State.reset.cfg ∧ 9 < State.reset.cfg.n ∧ State.reset.cfg.n ≤ 10 := by
  unfold svLegal; decide
theorem witness_FillDependsOnItsArgumentsAlone :
    State.reset.cfg = (setBuf [(9, 7#32)] State.reset).cfg ∧ State.reset.hueOffset = (setBuf [(9, 7#32)] State.reset).hueOffset ∧
    svLegal State.reset.cfg ∧ BufferInv State.reset ∧ BufferInv (setBuf [(9, 7#32)] State.reset) := by
  unfold svLegal BufferInv; decide
theorem witness_ConstantsOutOfRangeAreRefused :
    ¬ svLegal (fillState 0#8 25 10 256 255 .lift).cfg ∧
    dueFrame { fillState 0#8 25 10 255 256 .lift with mode := .running, now := 20#32 } = true := by
  unfold svLegal; decide
theorem witness_StartFollowsItsRule : State.reset.mode = .reset ∧ configValid State.reset.cfg = true ∧
    configValid { Config.reference with n := 0 } = false ∧ configValid { Config.reference with framePeriod := 2147483648 } = true := by
  decide
theorem witness_FaultingStartIsPrecise :
    (got (exec .start { State.reset with pinAckHb := .fail })).map (·.mode) = some .halted ∧
    (got (exec .start { State.reset with pinAckData := .fail })).map (fun t => (t.mode, t.fault)) =
      some (.halted, .pinConfigError) := by decide
theorem witness_NoStepOutsideItsMode : (runningAt 0#32).mode ≠ .reset ∧ State.reset.mode ≠ .running ∧
    (halted [.activate 1#32 .ok .ok .ok]).mode = .halted ∧
    nextStimulus (halted [.activate 1#32 .ok .ok .ok]) = .activate 1#32 .ok .ok .ok := by decide
theorem witness_ModeMovesAlongItsTransitions :
    (got (step (fresh [.activate 1#32 .ok .ok .ok]))).map (·.mode) = some .running ∧
    (got (step (fresh [.activate 1#32 .ok .fail .ok]))).map (·.mode) = some .halted ∧
    (got (step { runningAt 0#32 with inputs := [.activate 20#32 .ok .ok .error] })).map (·.mode) = some .running ∧
    (got (step (halted [.rst]))).map (·.mode) = some .reset := by decide
theorem witness_OnlyResetLeavesHalted :
    (halted []).mode = .halted ∧ (got (step (halted [.rst]))).map (fun t => (t.mode, t.fault)) = some (.reset, .none) ∧
    (got (step (halted [.hsvIn 0#24]))).map (fun t => (t.mode, t.fault)) = some (.halted, .configError) := by decide
theorem witness_ResetEventFromAnyMode : nextStimulus (halted [.rst]) = .rst ∧
    nextStimulus { runningAt 9#32 with inputs := [.rst] } = .rst := by decide
theorem witness_DueWhenThePeriodHasElapsed : (4294967295 : Nat) < 2 ^ 32 ∧
    (dueVector (runningAt 40#32)) = 0b101#3 ∧ (dueVector (runningAt 19#32)) = 0b000#3 := by decide
theorem witness_FiredTriggerIsNotDueAgain : 1 ≤ 1 ∧ anchorAfter 0x64#32 1 (elapsed 0x65#32 0x64#32) = 0x65#32 := by decide
theorem witness_HueAdvanceWrapsAtTheDomain : ({ State.reset with hueOffset := 255#8 }).hueOffset = 255#8 := by decide
theorem witness_HueOffsetCountsTheAdvances :
    (∀ i ∈ [Instr.hueAdvance, .hbToggle, .hueAdvance, .idleYield], isAction i = true) ∧
    ((got (exec .start State.reset)).map fun t => (t.mode, (got (runActions [.hueAdvance, .hbToggle, .hueAdvance, .idleYield] t)).map
      (·.hueOffset))) = some (.running, some 2#8) := by decide
theorem witness_HeartbeatToggleDrivesThePin : State.reset.heartbeatOn = false ∧
    ({ State.reset with heartbeatOn := true }).heartbeatOn = true := by decide
theorem witness_FrameRenderHandsOverASnapshot : svLegal State.reset.cfg ∧
    ((got (exec .frameRender State.reset)).map fun t => Memory.readAll 10 t.buf) = some (some fg0) := by
  unfold svLegal; decide
theorem witness_IdleYieldOnlyYields : (runningAt 19#32).mode = .running ∧ dueVector (runningAt 19#32) = 0b000#3 ∧
    (runningAt 20#32).mode = .running ∧ svLegal (runningAt 20#32).cfg ∧ dueVector (runningAt 20#32) ≠ 0b000#3 := by
  unfold svLegal; decide
theorem witness_IterateDoesExactlyTheDueActions : (runningAt 512#32).mode = .running ∧ svLegal (runningAt 512#32).cfg ∧
    dueHue (runningAt 512#32) = true ∧ dueHb (runningAt 512#32) = true ∧ dueFrame (runningAt 512#32) = true ∧
    dueVector (runningAt 10#32) = 0b000#3 := by
  unfold svLegal; decide
theorem witness_IterateRunsTheDecodedActions : (runningAt 512#32).mode = .running ∧
    decodeDue3 (dueVector (runningAt 512#32)) = [.hueAdvance, .hbToggle, .frameRender] := by decide
theorem witness_SinkStatusIsIgnored : (runningAt 20#32).mode = .running ∧ svLegal (runningAt 20#32).cfg ∧
    (runningAt 20#32).sinkStatus ≠ .error := by
  unfold svLegal; decide
theorem witness_OnlyItsWritersChangeAnElement :
    (got (exec .hueAdvance State.reset)).map (·.hueOffset) = some 1#8 ∧
    (got (exec .start { State.reset with now := 7#32 })).map (·.lastHb) = some 7#32 ∧
    (got (exec .hbToggle State.reset)).map (·.pinLevel) = some .high ∧
    (got (exec .fillRainbow State.reset)).map (fun t => t.buf.length) = some 10 := by decide
theorem witness_AtMostOneSinkWriteAStep :
    nextStimulus { runningAt 0#32 with inputs := [.activate 20#32 .ok .ok .error] } ≠ .rst ∧
    (got (step { runningAt 0#32 with inputs := [.activate 20#32 .ok .ok .error] })).map (·.events) = some [.sinkWrite fg0] := by
  decide
theorem witness_SinkWritesAFullPeriodApart : (runningAt 0#32).mode = .running ∧ configValid (runningAt 0#32).cfg = true ∧
    OnGrid 0 0 (runningAt 0#32) ∧ gapsWithin (2 ^ 32 - maxPeriod (runningAt 0#32).cfg) 0 [20, 40] ∧
    ((got (Host.Core.run core 2 ((runningAt 0#32).withDraws [drawsAt 20, drawsAt 40]))).map fun t => (sinkFrames t.events).length) =
      some 2 := by
  refine ⟨rfl, by decide, ⟨by decide, by decide, by decide⟩, ⟨by decide, by decide, by decide, by decide, trivial⟩, by decide⟩
theorem witness_EveryStepKeepsTheInvariant : Inv (fresh [.activate 7#32 .ok .ok .ok]) ∧
    (got (step (fresh [.activate 7#32 .ok .ok .ok]))).map (·.mode) = some .running := by
  unfold Machine.Inv BufferInv PortInv ModeInv HeartbeatInv FrameInv; decide
theorem witness_RunningNeverStops : Inv (runningAt 0#32) ∧ (runningAt 0#32).mode = .running := by
  unfold Machine.Inv BufferInv PortInv ModeInv HeartbeatInv FrameInv; decide
theorem witness_HeartbeatStrictlyAlternates : ((got (exec .start State.reset)).map fun t => (t.mode,
    (got (Host.Core.run core 2 (t.withDraws [drawsAt 512, drawsAt 1024]))).map fun u => pinLevels u.events)) =
    some (.running, some [.high, .low]) := by decide
theorem witness_TriggersFireOnTheirGrids : (runningAt 0#32).mode = .running ∧ configValid (runningAt 0#32).cfg = true ∧
    0 ≤ 0 ∧ OnGrid 0 0 (runningAt 0#32) ∧ gapsWithin (2 ^ 32 - maxPeriod (runningAt 0#32).cfg) 0 [45, 5000000000 - 1000000000] := by
  refine ⟨rfl, by decide, by decide, ⟨by decide, by decide, by decide⟩, by decide, by decide, by decide, by decide, trivial⟩
theorem witness_ActionCountsMatchElapsedPeriods : State.reset.now = BitVec.ofNat 32 (2 ^ 32) ∧
    (got (exec .start State.reset)).map (·.mode) = some .running ∧
    gapsWithin (2 ^ 32 - maxPeriod State.reset.cfg) (2 ^ 32) [2 ^ 32 + 20, 2 ^ 32 + 40] ∧
    gapsWithin State.reset.cfg.framePeriod (2 ^ 32) [2 ^ 32 + 20, 2 ^ 32 + 40] := by
  refine ⟨by decide, by decide, ⟨by decide, by decide, by decide, by decide, trivial⟩, by decide, by decide, by decide, by decide,
    trivial⟩
theorem witness_UnspecifiedValuesAreNeverSeen :
    (fresh [.activate 0#32 .ok .ok .ok, .activate 20#32 .ok .ok .ok]).mode = .reset ∧
    SameButUnspecified (fresh [.activate 0#32 .ok .ok .ok, .activate 20#32 .ok .ok .ok])
      { fresh [.activate 0#32 .ok .ok .ok, .activate 20#32 .ok .ok .ok] with hueOffset := 9#8, heartbeatOn := true, buf := [(3, 5#32)] } ∧
    (got (Host.Core.run core 2 (fresh [.activate 0#32 .ok .ok .ok, .activate 20#32 .ok .ok .ok]))).map (·.mode) = some .running := by
  unfold SameButUnspecified; decide
/-- Two late frames, 5 apart: one for each grid point passed. -/
theorem witness_SinkRateIsBoundedByTheFramePeriod : (runningAt 0#32).mode = .running ∧ configValid (runningAt 0#32).cfg = true ∧
    0 ≤ 0 ∧ OnGrid 0 0 (runningAt 0#32) ∧ gapsWithin (2 ^ 32 - maxPeriod (runningAt 0#32).cfg) 0 [35, 40] ∧
    ((got (Host.Core.run core 2 ((runningAt 0#32).withDraws [drawsAt 35, drawsAt 40]))).map fun t => (sinkFrames t.events).length) =
      some 2 := by
  refine ⟨rfl, by decide, by decide, ⟨by decide, by decide, by decide⟩, ⟨by decide, by decide, by decide, by decide, trivial⟩, by decide⟩
/-- A frame on the grid at 20, nothing at 21, and the next frame exactly one period later. -/
theorem witness_SinkWriteNeedsAPeriodFromTheGridPoint :
    OnGrid 0 0 (runningAt 0#32) ∧ gapsWithin (2 ^ 32 - maxPeriod (runningAt 0#32).cfg) 0 (20 :: [21] ++ [40]) ∧
    (got (Host.Core.run core 1 ((runningAt 0#32).withDraws [drawsAt 20]))).bind (fun u =>
      (got (Host.Core.run core 1 (u.withDraws [drawsAt 21]))).bind fun w =>
        (got (Host.Core.run core 1 (w.withDraws [drawsAt 40]))).map fun w' =>
          ((sinkFrames w.events).length, (sinkFrames w'.events).length)) = some (1, 2) ∧
    0 + (runningAt 0#32).cfg.framePeriod * periodsPassed 0 (runningAt 0#32).cfg.framePeriod 20 = 20 := by
  refine ⟨⟨by decide, by decide, by decide⟩, ⟨by decide, by decide, by decide, by decide, by decide, by decide, trivial⟩, by decide, by decide⟩

end Sys2Proof.Tests
end

section
/-! SUPPORT. What the decoder of `hsv_in` reads: the guard of the hue is the word's top three bits (30_encoding.md R61, R62, R68). -/

namespace Sys2Proof.Machine

/-- The guard, bits 7:5 of the hue, is bits 23:21 of the word the hue is the top byte of (30_encoding.md R61, R62). -/
theorem hueGuard_fieldH (w : Hsv24) : hueGuard (fieldH w) = w.extractLsb' 21 3 := by
  simp only [hueGuard, fieldH]
  ext i hi
  have inByte : 5 + i < 8 := by omega
  simp [inByte, ← Nat.add_assoc]

/-- The decoder answers the form of bits 23:21, with the word's three bytes as operands (30_encoding.md R68). -/
theorem decodeHsv24_eq (w : Hsv24) :
    decodeHsv24 w = sextantForm (w.extractLsb' 21 3) (w.extractLsb' 16 8) (w.extractLsb' 8 8) (w.extractLsb' 0 8) :=
  congrArg (fun g => sextantForm g (fieldH w) (fieldS w) (fieldV w)) (hueGuard_fieldH w)

/-- Settles O3: the top three bits are the guard the decoder reads, and each of their eight values is one row of the table of
30_encoding.md R68. -/
theorem topThreeBitsSelectTheForm : Obligations.TopThreeBitsSelectTheForm := by
  intro w
  rw [decodeHsv24_eq]
  rcases guard_cases (w.extractLsb' 21 3) with e | e | e | e | e | e | e | e <;>
    · rw [e]
      rfl

end Sys2Proof.Machine
end

section
/-! SUPPORT. The two ramps of 40_color_transform.md R83 and R84. -/

namespace Sys2Proof.Machine

/-- The formula of R83. -/
theorem third_eq (o : BitVec 5) : third o = o.toNat * 8 * 85 / 256 := rfl

/-- The formula of R84. -/
theorem twothirds_eq (o : BitVec 5) : twothirds o = o.toNat * 8 * 170 / 256 := rfl

/-- 680 / 256 lies between 2 and 3, so the first ramp rises by one of them at each step of the offset (R83). -/
theorem third_succ {o : BitVec 5} (notLast : o ≠ 31#5) :
    third (o + 1#5) = third o + 2 ∨ third (o + 1#5) = third o + 3 := by
  have noWrap : (o + 1#5).toNat = o.toNat + 1 := by bv_omega
  rw [third_eq, third_eq, noWrap]
  omega

/-- Settles O8: the formulas, the ends of both ramps, and the rise of the first. -/
theorem rampsRiseToTheirEnds : Obligations.RampsRiseToTheirEnds := fun o =>
  ⟨third_eq o, third_le o, rfl, third_succ, twothirds_eq o, twothirds_le o, rfl, rfl, rfl⟩

end Sys2Proof.Machine
end

section
/-! SUPPORT. The multiply-and-shift and video-scale rounding of 40_color_transform.md R95 and R96. -/

namespace Sys2Proof.Machine

/-- The channel and the factor of a multiply-and-shift may be exchanged, so a bound by the factor is one by the channel too. -/
theorem scale8_comm (x f : Nat) : scale8 x f = scale8 f x := by
  unfold scale8
  rw [Nat.mul_comm]

/-- Only two full operands reach 254: the result is below each operand (R95). -/
theorem scale8_eq_254_iff {x f : Nat} (hx : x ≤ 255) (hf : f ≤ 255) : scale8 x f = 254 ↔ x = 255 ∧ f = 255 := by
  constructor
  · intro full
    have belowFactor := scale8_le (f := f) hx
    have belowChannel := scale8_le (f := x) hf
    rw [scale8_comm] at belowChannel
    omega
  · rintro ⟨rfl, rfl⟩
    rfl

/-- Settles O19. -/
theorem scaleStaysBelowFull : Obligations.ScaleStaysBelowFull := by
  intro x f hx hf
  have below := scale8_le (f := f) hx
  exact ⟨rfl, by omega, scale8_eq_254_iff hx hf⟩

/-- The factors 0 and 255 have no increment (R96). -/
@[simp] theorem vscaleInc_zero_factor (z : VsZero) (x : Nat) : vscaleInc z x 0 = 0 := by simp [vscaleInc]

@[simp] theorem vscaleInc_full_factor (z : VsZero) (x : Nat) : vscaleInc z x 255 = 0 := by simp [vscaleInc]

/-- Under LIFT every channel is incremented, for a factor in 1..254 (R96). -/
theorem vscaleInc_lift {f : Nat} (x : Nat) (hf : 1 ≤ f) (hf' : f ≤ 254) : vscaleInc .lift x f = 1 :=
  if_pos ⟨by omega, by omega, .inl rfl⟩

/-- A channel other than 0 is incremented under both VS_ZERO values, for a factor in 1..254 (R96). -/
theorem vscaleInc_of_ne_zero (z : VsZero) {x f : Nat} (hx : x ≠ 0) (hf : 1 ≤ f) (hf' : f ≤ 254) : vscaleInc z x f = 1 :=
  if_pos ⟨by omega, by omega, .inr hx⟩

/-- Under KEEP a channel of 0 is not incremented (R96). -/
@[simp] theorem vscaleInc_keep_zero (f : Nat) : vscaleInc .keep 0 f = 0 := by simp [vscaleInc]

@[simp] theorem vscale_zero_factor (z : VsZero) (x : Nat) : vscale z x 0 = 0 := by simp [vscale, scale8]

theorem vscale_full_factor (z : VsZero) {x : Nat} (hx : x ≤ 255) : vscale z x 255 = x - 1 := by
  rw [vscale, vscaleInc_full_factor, scale8_comm, scale8_full hx, Nat.add_zero]

/-- A full channel scales to the factor: the increment makes up for the 1 that R95 loses (R97, R98). -/
theorem vscale_full_channel (z : VsZero) {f : Nat} (hf : 1 ≤ f) (hf' : f ≤ 254) : vscale z 255 f = f := by
  rw [vscale, vscaleInc_of_ne_zero z (by decide) hf hf', scale8_full (by omega)]
  omega

theorem vscale_lift_zero {f : Nat} (hf : 1 ≤ f) (hf' : f ≤ 254) : vscale .lift 0 f = 1 := by
  simp [vscale, scale8, vscaleInc_lift 0 hf hf']

@[simp] theorem vscale_keep_zero (f : Nat) : vscale .keep 0 f = 0 := by simp [vscale, scale8]

/-- Under LIFT no channel scales to 0, for a factor in 1..254 (R98). -/
theorem vscale_lift_ne_zero {f : Nat} (x : Nat) (hf : 1 ≤ f) (hf' : f ≤ 254) : vscale .lift x f ≠ 0 := by
  rw [vscale, vscaleInc_lift x hf hf']
  omega

/-- The range of R96: at the factor 255 the result is one below the channel, and below that it does not exceed the factor. -/
theorem vscale_le_254 (z : VsZero) {x f : Nat} (hx : x ≤ 255) (hf : f ≤ 255) : vscale z x f ≤ 254 := by
  obtain rfl | rfl | ⟨positive, below⟩ : f = 0 ∨ f = 255 ∨ (1 ≤ f ∧ f ≤ 254) := by omega
  · simp
  · rw [vscale_full_factor z hx]
    omega
  · exact (vscale_le hx positive).trans below

end Sys2Proof.Machine
end

section
/-! SUPPORT. The saturation and value steps on one channel (40_color_transform.md R97, R98, R105): the two special factors, and the
general formula between them. -/

namespace Sys2Proof.Machine

@[simp] theorem satChannel_full (z : VsZero) (c : Nat) : satChannel z 255 c = c := rfl

@[simp] theorem satChannel_zero (z : VsZero) (c : Nat) : satChannel z 0 c = 255 := rfl

theorem satChannel_between (z : VsZero) {s : Nat} (c : Nat) (hs : 1 ≤ s) (hs' : s ≤ 254) :
    satChannel z s c = vscale z c s + (255 - s) := by
  rw [satChannel, if_neg (by omega), if_neg (by omega)]

@[simp] theorem valChannel_full (z : VsZero) (c : Nat) : valChannel z 255 c = c := rfl

@[simp] theorem valChannel_zero (z : VsZero) (c : Nat) : valChannel z 0 c = 0 := rfl

theorem valChannel_between (z : VsZero) {v : Nat} (c : Nat) (hv : 1 ≤ v) (hv' : v ≤ 254) :
    valChannel z v c = vscale z c v := by
  rw [valChannel, if_neg (by omega), if_neg (by omega)]

/-- At saturation 1 the lifted channel is 1, and 254 is added to it (R97). -/
theorem satChannel_lift_one {c : Nat} (hc : c ≤ 255) : satChannel .lift 1 c = 255 := by
  have atMostOne : vscale .lift c 1 ≤ 1 := vscale_le hc le_rfl
  have notZero := vscale_lift_ne_zero c (f := 1) (by omega) (by omega)
  rw [satChannel_between .lift c (by omega) (by omega)]
  omega

/-- Settles O20. -/
theorem videoScaleRoundingCorners : Obligations.VideoScaleRoundingCorners := by
  intro z x f hx hf
  have zeroChannel (positive : 0 < f) (below : f < 255) : vscale .lift 0 f = 1 ∧ vscale .keep 0 f = 0 :=
    ⟨vscale_lift_zero positive (by omega), vscale_keep_zero f⟩
  exact ⟨rfl, vscale_le_254 z hx hf, vscale_zero_factor z x, vscale_full_factor z hx, zeroChannel,
    satChannel_zero z x, satChannel_full z x, valChannel_zero z x, valChannel_full z x⟩

/-- Settles O21: between the special factors the step is the general formula, and its corners are those of video-scale rounding. -/
theorem saturationStepOnAChannel : Obligations.SaturationStepOnAChannel := by
  intro z s c hs hc
  refine ⟨fun _ _ _ => rfl, satChannel_full z c, satChannel_zero z c, by rw [vscale_zero_factor], fun positive below => ?_⟩
  have general (z : VsZero) (c : Nat) := satChannel_between z c positive below
  refine ⟨general z c, satChannel_le hc hs, ?fullChannel, ?lifted, ?kept, satChannel_lift_one hc⟩
  case fullChannel => rw [general, vscale_full_channel z positive below]; omega
  case lifted => rw [general, vscale_lift_zero positive below]; omega
  case kept => rw [general, vscale_keep_zero, Nat.zero_add]

/-- Settles O22: between the special factors the step is video-scale rounding itself. -/
theorem valueStepOnAChannel : Obligations.ValueStepOnAChannel := by
  intro z v c hv hc
  refine ⟨fun _ _ _ => rfl, valChannel_full z c, valChannel_zero z c, vscale_zero_factor z c, fun positive below => ?_⟩
  have general (z : VsZero) (c : Nat) := valChannel_between z c positive below
  refine ⟨general z c, ?fullChannel, ?range, ?notBlack⟩
  case fullChannel => rw [general, vscale_full_channel z positive below]
  case range => rw [general]; exact vscale_le_254 z hc hv
  case notBlack => rw [general]; exact vscale_lift_ne_zero c positive below

end Sys2Proof.Machine
end

section
/-! SUPPORT. The whole transform (40_color_transform.md R94, R99, R101): every channel fits in 8 bits after each stage, so packing
discards no bit, and HSV2RGB is the sextant form of its guard bits. -/

namespace Sys2Proof.Machine

/-- Every channel of the triple fits in 8 bits. -/
def Rgb.Fits (c : Rgb) : Prop := c.r ≤ 255 ∧ c.g ≤ 255 ∧ c.b ≤ 255

/-- A function that keeps a channel in 8 bits keeps every lane in 8 bits. -/
theorem Rgb.Fits.mapChannels {c : Rgb} (hc : c.Fits) {f : Nat → Nat} (hf : ∀ x ≤ 255, f x ≤ 255) : (c.mapChannels f).Fits := by
  obtain ⟨fitsR, fitsG, fitsB⟩ := hc
  exact ⟨hf _ fitsR, hf _ fitsG, hf _ fitsB⟩

/-- The raw triple of every hue fits (R94). -/
theorem rawOf_fits (h : Byte) : (rawOf h).Fits := by
  have rampEnd := third_le (hueOffset5 h)
  have secondRampEnd := twothirds_le (hueOffset5 h)
  rcases rawOf_cases h with ⟨-, raw⟩ | ⟨-, raw⟩ | ⟨-, raw⟩ | ⟨-, raw⟩ | ⟨-, raw⟩ | ⟨-, raw⟩ | ⟨-, raw⟩ | ⟨-, raw⟩ <;>
    · rw [raw]
      simp only [Rgb.Fits, rawS0, rawS1, rawS2, rawS3, rawS4, rawS5, rawS6, rawS7, Config.k85, Config.k170, Config.k171,
        Config.k255]
      omega

theorem satStep_fits (z : VsZero) {s : Nat} (hs : s ≤ 255) {c : Rgb} (hc : c.Fits) : (satStep z s c).Fits :=
  hc.mapChannels fun _ hx => satChannel_le hx hs

theorem valStep_fits (z : VsZero) {v : Nat} (hv : v ≤ 255) {c : Rgb} (hc : c.Fits) : (valStep z v c).Fits :=
  hc.mapChannels fun _ hx => valChannel_le hx hv

theorem finishTriple_general {cfg : Configuration} (mode : cfg.svMode = .general) (raw : Rgb) (s v : Byte) :
    finishTriple cfg raw s v = valStep cfg.vsZero v.toNat (satStep cfg.vsZero s.toNat raw) := by
  rw [finishTriple, mode]

theorem finishTriple_bypass {cfg : Configuration} (mode : cfg.svMode = .bypass) (raw : Rgb) (s v : Byte) :
    finishTriple cfg raw s v = raw := by
  rw [finishTriple, mode]

/-- The triple that is packed fits, under both SV_MODE values (R101). -/
theorem finishTriple_fits (cfg : Configuration) {raw : Rgb} (hraw : raw.Fits) (s v : Byte) : (finishTriple cfg raw s v).Fits := by
  have hs : s.toNat ≤ 255 := Nat.le_of_lt_succ s.isLt
  have hv : v.toNat ≤ 255 := Nat.le_of_lt_succ v.isLt
  cases mode : cfg.svMode with
  | general =>
    rw [finishTriple_general mode]
    exact valStep_fits _ hv (satStep_fits _ hs hraw)
  | bypass =>
    rw [finishTriple_bypass mode]
    exact hraw

/-- Packing a triple that fits discards no bit, and the alpha of the record is 255 (R101). -/
theorem channels_pack_of_fits {c : Rgb} (hc : c.Fits) :
    (channelR (packRgba c.r c.g c.b)).toNat = c.r ∧ (channelG (packRgba c.r c.g c.b)).toNat = c.g ∧
    (channelB (packRgba c.r c.g c.b)).toNat = c.b ∧ channelA (packRgba c.r c.g c.b) = 255#8 := by
  obtain ⟨fitsR, fitsG, fitsB⟩ := hc
  obtain ⟨red, green, blue, alpha⟩ := channels_pack c.r c.g c.b
  have whole {n : Nat} (hn : n ≤ 255) : (BitVec.ofNat 8 n).toNat = n := Nat.mod_eq_of_lt (Nat.lt_succ_of_le hn)
  exact ⟨red ▸ whole fitsR, green ▸ whole fitsG, blue ▸ whole fitsB, alpha⟩

/-- HSV2RGB answers on every state and changes the two ports only (R99, 10_state.md R32). -/
theorem exec_hsv2rgb (h s v : Byte) (st : State) :
    exec (.hsv2rgb h s v) st = .next (drivePorts (hsv24 h s v) (hsvToRgb st.cfg h s v) st) := rfl

/-- The form of a hue's guard bits is the operation its word decodes to (30_encoding.md R68). -/
theorem decodeHsv24_hsv24 (h s v : Byte) : decodeHsv24 (hsv24 h s v) = sextantForm (hueGuard h) h s v := by
  rw [decodeHsv24, fieldH_hsv24, fieldS_hsv24, fieldV_hsv24]

/-- The form of a hue's guard bits does what HSV2RGB does (R99). -/
theorem exec_sextantForm (h s v : Byte) (st : State) :
    exec (sextantForm (hueGuard h) h s v) st = exec (.hsv2rgb h s v) st := by
  rw [← decodeHsv24_hsv24, exec_decodeHsv24, fieldH_hsv24, fieldS_hsv24, fieldV_hsv24, exec_hsv2rgb]

/-- Settles O17. -/
theorem wholeTransformRunsItsForm : Obligations.WholeTransformRunsItsForm := by
  intro h s v st
  refine ⟨exec_hsv2rgb h s v st, (exec_sextantForm h s v st).symm, ?general, ?bypass, ?saturated,
    channels_pack_of_fits (finishTriple_fits st.cfg (rawOf_fits h) s v)⟩
  case general =>
    intro mode
    rw [hsvToRgb, finish, finishTriple_general mode]
    rfl
  case bypass =>
    intro mode
    rw [hsvToRgb, finish, finishTriple_bypass mode]
  case saturated =>
    exact fun z => satStep_fits z (Nat.le_of_lt_succ s.isLt) (rawOf_fits h)

end Sys2Proof.Machine
end

section
/-! SUPPORT. FILL_RAINBOW as an operation (41_frame_generator.md R120, R121): what it answers, and what its buffer holds at an index
below N and at any other. -/

namespace Sys2Proof.Machine

theorem exec_fillRainbow (s : State) : exec .fillRainbow s = fillRainbow s := rfl

/-- On legal constants FILL_RAINBOW replaces the buffer and nothing else. -/
theorem exec_fillRainbow_of_legal {s : State} (legal : svLegal s.cfg) :
    exec .fillRainbow s = .next (setBuf (filledBuf s) s) := by
  rw [exec_fillRainbow, fillRainbow_of_legal legal]

theorem read_filledBuf_of_lt {s : State} {i : Nat} (inFrame : i < s.cfg.n) :
    Memory.read (filledBuf s) i =
      some (pixelAt s.cfg s.hueOffset (BitVec.ofNat 8 s.cfg.satK) (BitVec.ofNat 8 s.cfg.valK) i) := by
  rw [filledBuf, read_fillMemory, if_pos inFrame]

theorem read_filledBuf_of_ge {s : State} {i : Nat} (pastFrame : s.cfg.n ≤ i) :
    Memory.read (filledBuf s) i = Memory.read s.buf i := by
  rw [filledBuf, read_fillMemory, if_neg (Nat.not_lt.2 pastFrame)]

/-- Settles O25: the buffer is `filledBuf s`, read below N and from N on. -/
theorem fillWritesEveryPixel : Obligations.FillWritesEveryPixel := by
  intro s legal
  refine ⟨filledBuf s, exec_fillRainbow_of_legal legal, ?belowN, ?fromN⟩
  case belowN => exact fun _ inFrame => read_filledBuf_of_lt inFrame
  case fromN => exact fun _ pastFrame => read_filledBuf_of_ge pastFrame

end Sys2Proof.Machine
end

section
/-! SUPPORT. The Scheduler's due tests and anchor updates (42_scheduler.md R132 to R134). -/

namespace Sys2Proof.Machine

/-- The modular elapsed time in the order of R132: the later time first. -/
theorem elapsed_toNat_eq (t last : Time) : (elapsed t last).toNat = (t.toNat + 2 ^ 32 - last.toNat) % 2 ^ 32 := by
  have noBorrow := last.isLt
  rw [elapsed_toNat]
  congr 1
  omega

/-- An elapsed time below 2^TIME_W is read exactly, however often the clock has wrapped (R132). -/
theorem elapsed_ofNat_add (anchor : Nat) {e : Nat} (he : e < 2 ^ 32) :
    (elapsed (BitVec.ofNat 32 (anchor + e)) (BitVec.ofNat 32 anchor)).toNat = e := by
  rw [elapsed_toNat, BitVec.toNat_ofNat, BitVec.toNat_ofNat]
  omega

/-- A due test as a comparison of naturals (R132, R133). -/
theorem isDue_elapsed_iff (period : Nat) (t last : Time) :
    isDue period (elapsed t last) = true ↔ period ≤ (t.toNat + 2 ^ 32 - last.toNat) % 2 ^ 32 := by
  rw [isDue_iff, elapsed_toNat_eq]

/-- Settles O35. -/
theorem dueWhenThePeriodHasElapsed : Obligations.DueWhenThePeriodHasElapsed := by
  refine ⟨fun s => ?bits, elapsed_toNat_eq, fun anchor _ he => elapsed_ofNat_add anchor he⟩
  case bits =>
    obtain ⟨bitHue, bitHb, bitFrame, -⟩ := dueVector_bits s
    rw [bitHue, bitHb, bitFrame]
    exact ⟨isDue_elapsed_iff .., isDue_elapsed_iff .., isDue_elapsed_iff ..⟩

/-- The moved anchor lies `e mod period` before the present time: it has moved by the whole periods in `e` (R134). -/
theorem elapsed_anchorAfter (t last : Time) (period : Nat) :
    (elapsed t (anchorAfter last period (elapsed t last))).toNat = (elapsed t last).toNat % period := by
  have wholePeriods := Nat.div_add_mod (elapsed t last).toNat period
  rw [elapsed_toNat, anchorAfter_toNat]
  have he := elapsed_toNat t last
  have := t.isLt
  have := last.isLt
  generalize period * ((elapsed t last).toNat / period) = moved at *
  omega

/-- Settles O36: what is left of the elapsed time is a remainder by the period, so below it. -/
theorem firedTriggerIsNotDueAgain : Obligations.FiredTriggerIsNotDueAgain := by
  intro t last period positive
  refine ⟨anchorAfter_toNat .., elapsed_anchorAfter .., ?notDue⟩
  case notDue =>
    rw [isDue, decide_eq_false_iff_not, elapsed_anchorAfter, Nat.not_le]
    exact Nat.mod_lt _ positive

end Sys2Proof.Machine
end

section
/-! SUPPORT. The four actions as operations (42_scheduler.md R136 to R139). -/

namespace Sys2Proof.Machine

/-- HUE_DOMAIN is the domain of a byte, so the modulus of R136 is the byte's own wrap. -/
theorem nextHue_eq (o : Byte) : BitVec.ofNat 8 ((o.toNat + 1) % Config.hueDomain) = o + 1#8 := by
  simp only [Config.hueDomain]
  bv_omega

theorem exec_hueAdvance (s : State) : exec .hueAdvance s = .next { s with hueOffset := s.hueOffset + 1#8 } := by
  rw [← nextHue_eq]
  rfl

/-- `k` advances in a row move the offset by `k` (R136). -/
theorem runActions_replicate_hueAdvance (k : Nat) (s : State) :
    runActions (List.replicate k .hueAdvance) s = .next { s with hueOffset := s.hueOffset + BitVec.ofNat 8 k } := by
  induction k generalizing s with
  | zero => simp [runActions]
  | succ k ih =>
    have sum : s.hueOffset + 1#8 + BitVec.ofNat 8 k = s.hueOffset + BitVec.ofNat 8 (k + 1) := by bv_omega
    rw [List.replicate_succ, runActions, exec_hueAdvance, andThen, ih, sum]

/-- Settles O37: 256 is 0 as a byte, so 256 advances move the offset by nothing. -/
theorem hueAdvanceWrapsAtTheDomain : Obligations.HueAdvanceWrapsAtTheDomain := by
  intro s
  refine ⟨s.hueOffset + 1#8, exec_hueAdvance s, BitVec.toNat_add .., ?wraps, ?returns⟩
  case wraps =>
    intro last
    rw [last]
    rfl
  case returns =>
    rw [runActions_replicate_hueAdvance]
    simp

theorem exec_hbToggle (s : State) : exec .hbToggle s = .next (toggleHeartbeat s) := rfl

/-- Settles O39. -/
theorem heartbeatToggleDrivesThePin : Obligations.HeartbeatToggleDrivesThePin := by
  intro s
  rw [exec_hbToggle, toggleHeartbeat_eq]
  refine ⟨?off, ?on⟩
  case off =>
    intro off
    simp [off]
  case on =>
    intro on
    simp [on]

/-- On legal constants FRAME_RENDER fills and hands over (R138). -/
theorem exec_frameRender_of_legal {s : State} (legal : svLegal s.cfg) : exec .frameRender s = .next (rendered s) :=
  renderFrame_of_legal legal

/-- The buffer a fill leaves, read back, is the frame's records (20_memory.md R42, R45). -/
theorem readAll_filledBuf (s : State) : Memory.readAll s.cfg.n (filledBuf s) = some (frameRecords s.cfg s.hueOffset) :=
  readAll_fillMemory ..

/-- Settles O40: the buffer is `filledBuf s`. -/
theorem frameRenderHandsOverASnapshot : Obligations.FrameRenderHandsOverASnapshot := fun s legal =>
  ⟨filledBuf s, exec_frameRender_of_legal legal, readAll_filledBuf s, fun _ pastFrame => read_filledBuf_of_ge pastFrame⟩

theorem exec_idleYield (s : State) : exec .idleYield s = .next (yieldIdle s) := rfl

end Sys2Proof.Machine
end

section
/-! SUPPORT. START as one answer (42_scheduler.md R131), and the mode each of the Scheduler's steps leaves (R130). -/

namespace Sys2Proof.Machine

theorem exec_start (s : State) : exec .start s = execStart s := rfl

theorem execStart_of_config_error {s : State} (mode : s.mode = .reset) (illegal : configValid s.cfg = false) :
    execStart s = .next (raiseFault .configError s) := by
  simp [execStart, mode, illegal]

theorem execStart_of_valid {s : State} (mode : s.mode = .reset) (valid : configValid s.cfg = true) :
    execStart s = .next (configurePins s) := by
  rw [execStart, if_pos mode, if_pos valid]

theorem configurePins_of_hb_fail {s : State} (hb : s.pinAckHb = .fail) :
    configurePins s = raiseFault .pinConfigError (emit (.pinConfig .hbPin) s) := by
  simp [configurePins, hb]

theorem configurePins_of_data_fail {s : State} (hb : s.pinAckHb = .ok) (data : s.pinAckData = .fail) :
    configurePins s = raiseFault .pinConfigError (emit (.pinConfig .dataPin) (emit (.pinConfig .hbPin) s)) := by
  simp [configurePins, configureDataPin, hb, data]

theorem configurePins_of_ok {s : State} (hb : s.pinAckHb = .ok) (data : s.pinAckData = .ok) :
    configurePins s = enterRunning (emit (.pinConfig .dataPin) (emit (.pinConfig .hbPin) s)) := by
  simp [configurePins, configureDataPin, hb, data]

/-- The two pin requests, in their order. -/
theorem emit_pinConfigs (s : State) : emit (.pinConfig .dataPin) (emit (.pinConfig .hbPin) s) =
    { s with events := s.events ++ [.pinConfig .hbPin, .pinConfig .dataPin] } := by
  simp [emit]

/-- CONFIG_VALID with TIME_W = 32: the last clause of R131, `TIME_W ≥ 2`, holds of that width. -/
theorem configValid_iff (c : Configuration) : configValid c = true ↔
    (1 ≤ c.huePeriod ∧ c.huePeriod ≤ 2147483648) ∧ (1 ≤ c.hbPeriod ∧ c.hbPeriod ≤ 2147483648) ∧
    (1 ≤ c.framePeriod ∧ c.framePeriod ≤ 2147483648) ∧ (1 ≤ c.n ∧ c.n ≤ c.nMax) ∧ c.satK ≤ 255 ∧ c.valK ≤ 255 := by
  simp [configValid, Config.timeW]

theorem ack_fail_or_ok (a : Ack) : a = .fail ∨ a = .ok := by
  cases a <;> simp

/-- Settles O29, by the order of START's checks. -/
theorem startFollowsItsRule : Obligations.StartFollowsItsRule := by
  intro s mode
  refine ⟨configValid_iff s.cfg, ?answer⟩
  case answer =>
    rw [exec_start]
    cases valid : configValid s.cfg with
    | false => exact execStart_of_config_error mode valid
    | true =>
      rw [execStart_of_valid mode valid, if_neg (by decide)]
      rcases ack_fail_or_ok s.pinAckHb with hb | hb
      · rw [configurePins_of_hb_fail hb, if_pos hb]
        rfl
      · rw [if_neg (by simp [hb])]
        rcases ack_fail_or_ok s.pinAckData with data | data
        · rw [configurePins_of_data_fail hb data, emit_pinConfigs, if_pos data]
          rfl
        · rw [configurePins_of_ok hb data, emit_pinConfigs, if_neg (by simp [data])]
          rfl

/-- START ends in RUNNING with no new fault, or in HALTED with one (R130, R131). -/
theorem execStart_mode {s t : State} (h : execStart s = .next t) :
    (t.mode = .running ∧ t.fault = s.fault) ∨ (t.mode = .halted ∧ t.fault ≠ .none) := by
  obtain ⟨-, ⟨-, rfl⟩ | ⟨-, -, rfl⟩ | ⟨-, -, -, rfl⟩ | ⟨-, -, -, rfl⟩⟩ := execStart_next h
  · exact .inr ⟨rfl, nofun⟩
  · exact .inr ⟨rfl, nofun⟩
  · exact .inr ⟨rfl, nofun⟩
  · exact .inl ⟨rfl, rfl⟩

theorem afterHb_mode (s : State) : (afterHb s).mode = s.mode := by
  rw [afterHb_eq]

/-- ITERATE stays in RUNNING (R130). -/
theorem execIterate_mode {s t : State} (h : execIterate s = .next t) : t.mode = .running := by
  obtain ⟨running, answer⟩ := execIterate_next h
  have stays : (afterHb s).mode = .running := (afterHb_mode s).trans running
  obtain ⟨-, -, rfl⟩ | ⟨-, -, rfl⟩ | ⟨-, -, rfl⟩ := answer
  · exact stays
  · exact stays
  · exact stays

/-- A word on `hsv_in` moves no mode (10_state.md R32). -/
theorem exec_decodeHsv24_mode {w : Hsv24} {s t : State} (h : exec (decodeHsv24 w) s = .next t) : t.mode = s.mode := by
  rw [exec_decodeHsv24] at h
  cases h
  rfl

/-- Settles O32, along the cases of a step. -/
theorem modeMovesAlongItsTransitions : Obligations.ModeMovesAlongItsTransitions := by
  intro s t answers
  obtain ⟨stim, rfl⟩ | ⟨_, _, _, _, stim, reset, started⟩ | ⟨_, _, _, _, stim, running, iterated⟩ |
    ⟨_, stim, colored⟩ := step_next answers <;> rw [stim]
  · exact resetEvent_mode _
  · exact .inl ⟨reset, started, (execStart_mode started :)⟩
  · exact .inr ⟨running, iterated, execIterate_mode iterated⟩
  · exact (exec_decodeHsv24_mode colored :)

end Sys2Proof.Machine
end

section
/-! SUPPORT. ITERATE as one answer (42_scheduler.md R135, R140): the state it leaves on legal constants, written as one update. -/

namespace Sys2Proof.Machine

theorem exec_iterate (s : State) : exec .iterate s = execIterate s := rfl

/-- The state an iteration leaves: the hue and heartbeat parts, then the frame with the offset they leave, then the yield when
nothing was due (R135). -/
def iterated (s : State) : State :=
  { afterHb s with
    lastFrame := if dueFrame s then anchorAfter s.lastFrame s.cfg.framePeriod (elapsedFrame s) else s.lastFrame
    buf := if dueFrame s then filledBuf (afterHb s) else s.buf
    events := (afterHb s).events ++
      (if dueFrame s then [.sinkWrite (frameRecords s.cfg (afterHb s).hueOffset)] else []) ++
      (if dueHue s || dueHb s || dueFrame s then [] else [.yield]) }

theorem afterHb_cfg (s : State) : (afterHb s).cfg = s.cfg := by
  rw [afterHb_eq]

theorem afterHb_buf (s : State) : (afterHb s).buf = s.buf := by
  rw [afterHb_eq]

theorem afterHb_lastFrame (s : State) : (afterHb s).lastFrame = s.lastFrame := by
  rw [afterHb_eq]

theorem afterHb_hueOffset (s : State) :
    (afterHb s).hueOffset = if dueHue s then s.hueOffset + 1#8 else s.hueOffset := by
  rw [afterHb_eq, nextHue_eq]

theorem afterHb_events (s : State) : (afterHb s).events = s.events ++
    (if dueHb s then [.pinLevel (if s.heartbeatOn then .low else .high)] else []) := by
  rw [afterHb_eq]

/-- What the frame part of an iteration does to the state the other two leave: it reads the anchor, the time and the
configuration as they were at the start (R135). -/
theorem rendered_fireFrame_afterHb (s : State) : rendered (fireFrame (afterHb s)) = { afterHb s with
    lastFrame := anchorAfter s.lastFrame s.cfg.framePeriod (elapsedFrame s)
    buf := filledBuf (afterHb s)
    events := (afterHb s).events ++ [.sinkWrite (frameRecords s.cfg (afterHb s).hueOffset)] } := by
  rw [afterHb_eq]
  rfl

/-- With neither trigger due the hue and heartbeat parts do nothing. -/
theorem afterHb_of_not_due {s : State} (hue : dueHue s = false) (hb : dueHb s = false) : afterHb s = s := by
  simp [afterHb_eq, hue, hb]

/-- ITERATE answers on every RUNNING state with legal constants (R135). -/
theorem exec_iterate_of_legal {s : State} (running : s.mode = .running) (legal : svLegal s.cfg) :
    exec .iterate s = .next (iterated s) := by
  have legalFrame : svLegal (fireFrame (afterHb s)).cfg := by rwa [fireFrame_cfg, afterHb_cfg]
  rw [exec_iterate, execIterate_of_running running]
  cases frame : dueFrame s with
  | true =>
    rw [if_pos rfl, renderFrame_of_legal legalFrame, rendered_fireFrame_afterHb]
    simp [iterated, frame]
  | false =>
    cases other : dueHue s || dueHb s with
    | true => simp [iterated, frame, other, ← afterHb_lastFrame s, ← afterHb_buf s]
    | false => simp [iterated, frame, other, ← afterHb_lastFrame s, ← afterHb_buf s, yieldIdle, emit]

/-- The events an iteration adds, in their order: the heartbeat's, the frame's, and a Yield when nothing was due (R139, R140). -/
theorem iterated_events (s : State) : (iterated s).events = s.events ++
    ((if dueHb s then [.pinLevel (if s.heartbeatOn then .low else .high)] else []) ++
      (if dueFrame s then [.sinkWrite (frameRecords s.cfg (afterHb s).hueOffset)] else []) ++
      (if dueHue s || dueHb s || dueFrame s then [] else [.yield])) := by
  rw [iterated, afterHb_events]
  simp only [List.append_assoc]

/-- Settles O42: the buffer is the fill's when the frame was due, and the old one otherwise. -/
theorem iterateDoesExactlyTheDueActions : Obligations.IterateDoesExactlyTheDueActions := by
  intro s running legal
  refine ⟨if dueFrame s then filledBuf (afterHb s) else s.buf, (afterHb s).hueOffset, ?answer, afterHb_hueOffset s, ?buffer⟩
  case answer =>
    rw [exec_iterate_of_legal running legal, iterated, afterHb_eq]
  case buffer =>
    cases dueFrame s with
    | true =>
      have filled := readAll_filledBuf (afterHb s)
      have past {i : Nat} := read_filledBuf_of_ge (s := afterHb s) (i := i)
      rw [afterHb_cfg] at filled
      rw [afterHb_cfg, afterHb_buf] at past
      exact ⟨filled, fun _ => past⟩
    | false => rfl

/-- An iteration with an action due adds no Yield (R139). -/
theorem yield_notMem_iterated {s : State} (due : dueVector s ≠ 0b000#3) :
    ∃ added : List Event, (iterated s).events = s.events ++ added ∧ Event.yield ∉ added := by
  obtain ⟨-, -, -, nothingDue⟩ := dueVector_bits s
  refine ⟨_, iterated_events s, ?_⟩
  have someDue : (dueHue s || dueHb s || dueFrame s) = true := by
    by_contra noneDue
    simp only [Bool.not_eq_true, Bool.or_eq_false_iff, and_assoc] at noneDue
    exact due (nothingDue.2 noneDue)
  rw [if_pos someDue]
  cases dueHb s <;> cases dueFrame s <;> simp

/-- Settles O41. -/
theorem idleYieldOnlyYields : Obligations.IdleYieldOnlyYields := by
  intro s
  refine ⟨exec_idleYield s, ?idle, ?busy⟩
  case idle =>
    intro running idle
    obtain ⟨-, -, -, nothingDue⟩ := dueVector_bits s
    obtain ⟨hue, hb, frame⟩ := nothingDue.1 idle
    rw [exec_iterate, execIterate_of_running running, afterHb_of_not_due hue hb, hue, hb, frame]
    rfl
  case busy =>
    intro running legal due
    obtain ⟨added, grown, noYield⟩ := yield_notMem_iterated due
    exact ⟨iterated s, added, exec_iterate_of_legal running legal, grown, noYield⟩

/-- No part of an iteration reads the sink's status (R142). -/
theorem iterated_sinkStatus (s : State) (x : SinkStatus) :
    iterated { s with sinkStatus := x } = { iterated s with sinkStatus := x } := by
  have parts : afterHb { s with sinkStatus := x } = { afterHb s with sinkStatus := x } := by
    rw [afterHb_eq, afterHb_eq]
    rfl
  rw [iterated, parts]
  rfl

/-- Settles O44. -/
theorem sinkStatusIsIgnored : Obligations.SinkStatusIsIgnored := by
  intro s x running legal
  refine ⟨iterated s, exec_iterate_of_legal running legal, ?_⟩
  rw [← iterated_sinkStatus]
  exact exec_iterate_of_legal running legal

end Sys2Proof.Machine
end

section
/-! SUPPORT. The one way out of HALTED (60_exceptions.md R167). -/

namespace Sys2Proof.Machine

/-- A word on `hsv_in` records and clears no fault (10_state.md R32). -/
theorem exec_decodeHsv24_fault {w : Hsv24} {s t : State} (h : exec (decodeHsv24 w) s = .next t) : t.fault = s.fault := by
  rw [exec_decodeHsv24] at h
  cases h
  rfl

/-- What a step can answer from HALTED, where the mode selects neither START nor ITERATE: a reset event was taken, or a word on
`hsv_in` was executed (30_encoding.md R60, 60_exceptions.md R166). -/
theorem step_next_of_halted {s t : State} (halted : s.mode = .halted) (h : step s = .next t) :
    (nextStimulus s = .rst ∧ t = resetEvent (consume s)) ∨
    (∃ w, nextStimulus s = .hsvIn w ∧ exec (decodeHsv24 w) (consume s) = .next t) := by
  obtain reset | ⟨_, _, _, _, -, inReset, -⟩ | ⟨_, _, _, _, -, inRunning, -⟩ | colored := step_next h
  · exact .inl reset
  · cases halted.symm.trans inReset
  · cases halted.symm.trans inRunning
  · exact .inr colored

/-- Settles O33: of the two steps HALTED has, the reset event clears the fault and a word on `hsv_in` keeps mode and fault. -/
theorem onlyResetLeavesHalted : Obligations.OnlyResetLeavesHalted := by
  intro s t halted answers
  obtain ⟨stim, rfl⟩ | ⟨w, stim, colored⟩ := step_next_of_halted halted answers
  · exact .inl ⟨stim, resetEvent_mode _, resetEvent_fault _⟩
  · have sameMode := exec_decodeHsv24_mode colored
    have sameFault := exec_decodeHsv24_fault colored
    rw [consume_mode] at sameMode
    rw [consume_fault] at sameFault
    exact .inr ⟨by simp [stim], sameMode.trans halted, sameFault⟩

end Sys2Proof.Machine
end

section
/-! SUPPORT. The encoder against the decoder (30_encoding.md R68 to R70): a form's own word decodes to the form, and a word is the
encoding of the form it selects. -/

namespace Sys2Proof.Machine

theorem encode_sextantForm (g : BitVec 3) (h s v : Byte) :
    encode (sextantForm g h s v) = hsv24Bytes (formWord g h s v) := by
  rcases guard_cases g with rfl | rfl | rfl | rfl | rfl | rfl | rfl | rfl <;> rfl

/-- A form is well formed exactly when its hue carries its guard bits. -/
theorem wellFormed_sextantForm (g : BitVec 3) (h s v : Byte) :
    wellFormed (sextantForm g h s v) = (hueGuard h == g) := by
  rcases guard_cases g with rfl | rfl | rfl | rfl | rfl | rfl | rfl | rfl <;> rfl

theorem decode_hsv24 (h s v : Byte) : decode (hsv24Bytes (hsv24 h s v)) = .ok (sextantForm (hueGuard h) h s v) := by
  rw [decode_hsv24Bytes, decodeHsv24_hsv24]

/-- A form whose hue carries its guard bits decodes from its own word (R68). -/
theorem decode_formWord {g : BitVec 3} {h : Byte} (guard : hueGuard h == g) (s v : Byte) :
    decode (hsv24Bytes (formWord g h s v)) = .ok (sextantForm g h s v) := by
  have carried : hueGuard h = g := eq_of_beq guard
  rw [formWord_eq carried, decode_hsv24, carried]

/-- Settles O1: the eight forms by `decode_formWord`, the other rows by the decoder's table. -/
theorem decodeOfEncodeIsTheOperation : Obligations.DecodeOfEncodeIsTheOperation := by
  intro i wf
  cases i with
  | hsv2rgbS0 h s v => exact decode_formWord wf s v
  | hsv2rgbS1 h s v => exact decode_formWord wf s v
  | hsv2rgbS2 h s v => exact decode_formWord wf s v
  | hsv2rgbS3 h s v => exact decode_formWord wf s v
  | hsv2rgbS4 h s v => exact decode_formWord wf s v
  | hsv2rgbS5 h s v => exact decode_formWord wf s v
  | hsv2rgbS6 h s v => exact decode_formWord wf s v
  | hsv2rgbS7 h s v => exact decode_formWord wf s v
  | hsv2rgb h s v => exact decode_hsv24 h s v
  | fillRainbow => exact ⟨rfl, rfl⟩
  | start => exact ⟨rfl, rfl⟩
  | iterate => exact ⟨rfl, rfl⟩
  | hueAdvance => rfl
  | hbToggle => rfl
  | frameRender => rfl
  | idleYield => rfl

theorem wellFormed_decodeHsv24 (w : Hsv24) : wellFormed (decodeHsv24 w) = true := by
  rw [decodeHsv24, wellFormed_sextantForm, beq_self_eq_true]

theorem encode_decodeHsv24 (w : Hsv24) : encode (decodeHsv24 w) = hsv24Bytes w := by
  rw [decodeHsv24, encode_sextantForm, formWord_eq rfl, hsv24_fields]

/-- Settles O2. -/
theorem everyHsv24WordIsItsFormsEncoding : Obligations.EveryHsv24WordIsItsFormsEncoding := fun w =>
  ⟨wellFormed_decodeHsv24 w, encode_decodeHsv24 w, decode_hsv24Bytes w⟩

/-- The actions a due vector selects, one part for each of its bits (R69). -/
theorem decodeDue3_eq (d : Due3) : decodeDue3 d =
    (if d.getLsbD 2 then [Instr.hueAdvance] else []) ++ (if d.getLsbD 1 then [Instr.hbToggle] else []) ++
    (if d.getLsbD 0 then [Instr.frameRender] else []) ++ (if d = 0b000#3 then [Instr.idleYield] else []) := by
  revert d
  decide

/-- Settles O4. -/
theorem dueVectorSelectsActionsInOrder : Obligations.DueVectorSelectsActionsInOrder :=
  ⟨decodeDue3_eq, rfl, rfl, rfl⟩

/-- The three bytes read from a 24-bit number are those of its word. -/
theorem bytesOf_three (w : Nat) : bytesOf 3 w = hsv24Bytes (BitVec.ofNat 24 w) := by
  have byteOf (j : Nat) (inWord : 8 * j + 8 ≤ 24) :
      BitVec.ofNat 8 (w / 2 ^ (8 * j)) = (BitVec.ofNat 24 w).extractLsb' (8 * j) 8 := by
    apply BitVec.eq_of_toNat_eq
    rw [BitVec.extractLsb'_toNat, BitVec.toNat_ofNat, BitVec.toNat_ofNat, Nat.shiftRight_eq_div_pow]
    obtain rfl | rfl | rfl : j = 0 ∨ j = 1 ∨ j = 2 := by omega
    all_goals omega
  simp only [bytesOf, hsv24Bytes, List.range_succ, List.range_zero, List.nil_append, List.cons_append, List.map_cons,
    List.map_nil]
  rw [byteOf 0 (by decide), byteOf 1 (by decide), byteOf 2 (by decide)]

/-- A 24-bit number in range is read as its word (R68, R70). -/
theorem decodeTableWord_24 {w : Nat} (inRange : w < 2 ^ 24) :
    decodeTableWord 24 w = some (decodeHsv24 (BitVec.ofNat 24 w)) := by
  rw [decodeTableWord, if_pos inRange, bytesOf_three, decode_hsv24Bytes]

/-- A number the 24-bit decoder reads is read as its word. -/
theorem decodeTableWord_24_some {w : Nat} {i : Instr} (h : decodeTableWord 24 w = some i) :
    i = decodeHsv24 (BitVec.ofNat 24 w) := by
  by_cases inRange : w < 2 ^ 24
  · rw [decodeTableWord_24 inRange] at h
    exact (Option.some.inj h).symm
  · rw [decodeTableWord, if_neg inRange] at h
    cases h

/-- Settles O5: the three words by `decodeTableWord_24`, the two due vectors by the table of R69. -/
theorem writtenOutWordsDecode : Obligations.WrittenOutWordsDecode :=
  ⟨decodeTableWord_24 (by decide), decodeTableWord_24 (by decide), decodeTableWord_24 (by decide), rfl, rfl⟩

end Sys2Proof.Machine
end

section
/-! SUPPORT. What a step runs for each stimulus (30_encoding.md R60, R72; 60_exceptions.md R166), and the placed words (log 14). -/

namespace Sys2Proof.Machine

theorem step_of_rst {s : State} (stim : nextStimulus s = .rst) : step s = .next (resetEvent (consume s)) := by
  rw [step, stim]

theorem step_of_hsvIn {s : State} {w : Hsv24} (stim : nextStimulus s = .hsvIn w) :
    step s = exec (decodeHsv24 w) (consume s) := by
  rw [step, stim]

theorem step_of_activate_reset {s : State} {t : Time} {a b : Ack} {k : SinkStatus} (stim : nextStimulus s = .activate t a b k)
    (mode : s.mode = .reset) : step s = exec .start (present t a b k (consume s)) := by
  simp only [step, stim, scheduleStep, present_mode, consume_mode, mode, selectByMode]

theorem step_of_activate_running {s : State} {t : Time} {a b : Ack} {k : SinkStatus} (stim : nextStimulus s = .activate t a b k)
    (mode : s.mode = .running) : step s = exec .iterate (present t a b k (consume s)) := by
  simp only [step, stim, scheduleStep, present_mode, consume_mode, mode, selectByMode]

theorem step_of_activate_halted {s : State} {t : Time} {a b : Ack} {k : SinkStatus} (stim : nextStimulus s = .activate t a b k)
    (mode : s.mode = .halted) : step s = .fault .haltedNoStep := by
  simp only [step, stim, scheduleStep, present_mode, consume_mode, mode, selectByMode]

/-- Settles O6: the word's bytes decode to nothing but its form. -/
theorem stepRunsTheSelectedOperation : Obligations.StepRunsTheSelectedOperation := by
  refine fun _ => ⟨?word, fun _ _ _ _ => step_of_activate_reset, fun _ _ _ _ => step_of_activate_running⟩
  case word =>
    intro w i stim decoded _
    rw [decode_hsv24Bytes] at decoded
    rw [step_of_hsvIn stim, Except.ok.inj decoded]

/-- Settles O31. -/
theorem noStepOutsideItsMode : Obligations.NoStepOutsideItsMode := fun _ =>
  ⟨fun mode => if_neg mode, fun mode => if_neg mode, fun _ _ _ _ mode stim => step_of_activate_halted stim mode⟩

/-- Settles O34. -/
theorem resetEventFromAnyMode : Obligations.ResetEventFromAnyMode := fun _ stim =>
  ⟨_, step_of_rst stim, rfl, rfl, rfl, rfl, fun _ => rfl, rfl, rfl⟩

/-- Taking a placed stimulus counts it, and changes nothing else. -/
theorem consume_pushStimulus (x : Stimulus) (s : State) : consume (pushStimulus x s) = { s with drawn := s.drawn + 1 } := rfl

theorem withFetchWord_24 (s : State) (w : Nat) : s.withFetchWord 24 w = pushStimulus (.hsvIn (BitVec.ofNat 24 w)) s := rfl

theorem withFetchWord_8 (s : State) (d : Due3) : s.withFetchWord 8 d.toNat = placeDue3 d s := by
  rw [State.withFetchWord, if_neg (by decide), if_pos (by decide), BitVec.ofNat_toNat, BitVec.setWidth_eq]

/-- An anchor placed one legal period before the time makes its trigger due; one placed at the time does not (R132, R133). -/
theorem isDue_anchorFor (due : Bool) {period : Nat} (t : Time) (positive : 1 ≤ period) (atMost : period ≤ 2147483648) :
    isDue period (elapsed t (anchorFor due period t)) = due := by
  cases due with
  | true =>
    rw [isDue_iff, elapsed, anchorFor, if_pos rfl]
    have := t.isLt
    bv_omega
  | false =>
    have noTime : elapsed t (anchorFor false period t) = 0#32 := by simp [elapsed, anchorFor]
    rw [isDue, noTime, decide_eq_false_iff_not]
    exact Nat.not_le.2 positive

theorem ofBool_bits (d : Due3) :
    BitVec.ofBool (d.getLsbD 2) ++ BitVec.ofBool (d.getLsbD 1) ++ BitVec.ofBool (d.getLsbD 0) = d := by
  revert d
  decide

/-- The anchors of `placeDue3` make the due vector the placed one. -/
theorem dueVector_placeDue3 {s : State} (valid : configValid s.cfg = true) (d : Due3) : dueVector (placeDue3 d s) = d := by
  obtain ⟨⟨hue, hue'⟩, ⟨hb, hb'⟩, ⟨frame, frame'⟩, -⟩ := configValid_bounds valid
  have bitHue : dueHue (placeDue3 d s) = d.getLsbD 2 := isDue_anchorFor _ s.now hue hue'
  have bitHb : dueHb (placeDue3 d s) = d.getLsbD 1 := isDue_anchorFor _ s.now hb hb'
  have bitFrame : dueFrame (placeDue3 d s) = d.getLsbD 0 := isDue_anchorFor _ s.now frame frame'
  rw [dueVector, bitHue, bitHb, bitFrame, ofBool_bits]

/-- Settles O7: the next stimulus of a placed state is the placed one. -/
theorem placedWordRunsNext : Obligations.PlacedWordRunsNext := by
  refine fun s => ⟨?word, ?dueVector⟩
  case word =>
    intro w i decoded
    rw [decodeTableWord_24_some decoded, withFetchWord_24]
    exact step_of_hsvIn rfl
  case dueVector =>
    intro d valid
    rw [withFetchWord_8]
    exact ⟨_, step_of_activate_running rfl rfl, rfl, dueVector_placeDue3 valid d, rfl, rfl, rfl, rfl, rfl⟩

end Sys2Proof.Machine
end

section
/-! SUPPORT. The eight sextant forms as operations (40_color_transform.md R86 to R93), and the colors at the ends of the saturation
and value scales (R102, R103). -/

namespace Sys2Proof.Machine

/-- A form whose hue carries its guard bits drives the whole HSV24 word of its operands, and changes the two ports only. -/
theorem next_drivePorts_formWord {g : BitVec 3} {h : Byte} (guard : hueGuard h = g) (s v : Byte) (p : Rgba32) (st : State) :
    (.next (drivePorts (formWord g h s v) p st) : Host.Outcome State Fault Refusal) =
      .next { st with hsvIn := hsv24 h s v, rgbaOut := p } := by
  rw [formWord_eq guard]
  rfl

/-- Settles O9. -/
theorem formS0RedToOrange : Obligations.FormS0RedToOrange := fun _ s v st guard =>
  next_drivePorts_formWord guard s v _ st

/-- Settles O10. -/
theorem formS1OrangeToYellow : Obligations.FormS1OrangeToYellow := fun _ s v st guard =>
  next_drivePorts_formWord guard s v _ st

/-- Settles O11. -/
theorem formS2YellowToGreen : Obligations.FormS2YellowToGreen := fun _ s v st guard =>
  next_drivePorts_formWord guard s v _ st

/-- Settles O12. -/
theorem formS3GreenToAqua : Obligations.FormS3GreenToAqua := fun _ s v st guard =>
  next_drivePorts_formWord guard s v _ st

/-- Settles O13. -/
theorem formS4AquaToBlue : Obligations.FormS4AquaToBlue := fun _ s v st guard =>
  next_drivePorts_formWord guard s v _ st

/-- Settles O14. -/
theorem formS5BlueToPurple : Obligations.FormS5BlueToPurple := fun _ s v st guard =>
  next_drivePorts_formWord guard s v _ st

/-- Settles O15. -/
theorem formS6PurpleToPink : Obligations.FormS6PurpleToPink := fun _ s v st guard =>
  next_drivePorts_formWord guard s v _ st

/-- Settles O16. -/
theorem formS7PinkToRed : Obligations.FormS7PinkToRed := fun _ s v st guard =>
  next_drivePorts_formWord guard s v _ st

/-- Settles O18: the ends of the ramps lie below the smallest values they are subtracted from. -/
theorem sextantStageNeverWraps : Obligations.SextantStageNeverWraps := by
  intro h
  obtain ⟨red, green, blue⟩ := rawOf_fits h
  exact ⟨red, green, blue, (third_le _).trans (by decide), (twothirds_le _).trans (by decide)⟩

/-! ### Black and gray (R103) -/

/-- The saturation step at 0 makes every channel full (R97). -/
theorem satStep_zero (z : VsZero) (c : Rgb) : satStep z 0 c = ⟨255, 255, 255⟩ := rfl

/-- The saturation step at 255 keeps the triple (R97). -/
theorem satStep_full (z : VsZero) (c : Rgb) : satStep z 255 c = c := rfl

/-- The value step at 255 keeps the triple (R98). -/
theorem valStep_full (z : VsZero) (c : Rgb) : valStep z 255 c = c := rfl

/-- The value step at 0 makes every channel 0 (R98). -/
theorem valStep_zero (z : VsZero) (c : Rgb) : valStep z 0 c = ⟨0, 0, 0⟩ := rfl

/-- The value step scales a full channel to the value itself (R98). -/
theorem valChannel_full_channel (z : VsZero) {v : Nat} (hv : v ≤ 255) : valChannel z v 255 = v := by
  obtain rfl | rfl | ⟨positive, below⟩ : v = 0 ∨ v = 255 ∨ (1 ≤ v ∧ v ≤ 254) := by omega
  · exact valChannel_zero z 255
  · exact valChannel_full z 255
  · rw [valChannel_between z 255 positive below, vscale_full_channel z positive below]

theorem valStep_white (z : VsZero) (v : Byte) : valStep z v.toNat ⟨255, 255, 255⟩ = ⟨v.toNat, v.toNat, v.toNat⟩ := by
  have whole := valChannel_full_channel z (Nat.le_of_lt_succ v.isLt)
  simp only [valStep, Rgb.mapChannels, whole]

theorem packRgba_gray (v : Byte) : packRgba v.toNat v.toNat v.toNat = v ++ v ++ v ++ 255#8 := by
  rw [packRgba, BitVec.ofNat_toNat, BitVec.setWidth_eq]

theorem hsvToRgb_general {cfg : Configuration} (mode : cfg.svMode = .general) (h s v : Byte) {c : Rgb}
    (triple : valStep cfg.vsZero v.toNat (satStep cfg.vsZero s.toNat (rawOf h)) = c) :
    hsvToRgb cfg h s v = packRgba c.r c.g c.b := by
  rw [hsvToRgb, finish, finishTriple_general mode, triple]

theorem hsvToRgb_bypass {cfg : Configuration} (mode : cfg.svMode = .bypass) (h s v : Byte) :
    hsvToRgb cfg h s v = packRgba (rawOf h).r (rawOf h).g (rawOf h).b := by
  rw [hsvToRgb, finish, finishTriple_bypass mode]

/-- Under BYPASS hue 0 is full red, whatever the saturation and the value (R100). -/
theorem hsvToRgb_bypass_red {cfg : Configuration} (mode : cfg.svMode = .bypass) (s v : Byte) :
    hsvToRgb cfg 0#8 s v = 0xFF0000FF#32 := by
  rw [hsvToRgb_bypass mode]
  decide

/-- Settles O23: under BYPASS the red of hue 0 is neither black nor gray. -/
theorem collapseToBlackAndGray : Obligations.CollapseToBlackAndGray := by
  refine ⟨fun cfg h s v mode => ⟨?black, ?gray⟩, fun cfg mode => ⟨?notBlack, ?notGray⟩⟩
  case black => exact hsvToRgb_general mode h s 0#8 (valStep_zero _ _)
  case gray =>
    have white : satStep cfg.vsZero (0#8 : Byte).toNat (rawOf h) = ⟨255, 255, 255⟩ := satStep_zero _ _
    have scaled := (congrArg (valStep cfg.vsZero v.toNat) white).trans (valStep_white cfg.vsZero v)
    exact (hsvToRgb_general mode h 0#8 v scaled).trans (packRgba_gray v)
  case notBlack =>
    intro black
    have red := black 0#8 0#8
    rw [hsvToRgb_bypass_red mode] at red
    exact absurd red (by decide)
  case notGray =>
    intro gray
    have red := gray 0#8 0#8
    rw [hsvToRgb_bypass_red mode] at red
    exact absurd red (by decide)

/-! ### Full saturation and value (R102) -/

/-- The record of a hue at full saturation and value: its raw triple. -/
def fullColor (h : Byte) : Rgba32 := packRgba (rawOf h).r (rawOf h).g (rawOf h).b

/-- Both steps leave a triple as it is at full saturation and value, so SV_MODE and VS_ZERO do not matter. -/
theorem hsvToRgb_full (cfg : Configuration) (h : Byte) : hsvToRgb cfg h 255#8 255#8 = fullColor h := by
  cases mode : cfg.svMode with
  | general =>
    refine hsvToRgb_general mode h 255#8 255#8 (c := rawOf h) ?_
    exact (congrArg (valStep cfg.vsZero 255) (satStep_full _ _)).trans (valStep_full _ _)
  | bypass => exact hsvToRgb_bypass mode h 255#8 255#8

/-- Two channels differ by at most 7. -/
def withinSeven (x y : Byte) : Prop := x.toNat ≤ y.toNat + 7 ∧ y.toNat ≤ x.toNat + 7

/-- The last color of each sextant and the first of the next, in the eight sextants. -/
theorem fullColor_boundary (g : BitVec 3) :
    withinSeven (channelR (fullColor (g ++ 31#5))) (channelR (fullColor (g ++ 31#5 + 1#8))) ∧
    withinSeven (channelG (fullColor (g ++ 31#5))) (channelG (fullColor (g ++ 31#5 + 1#8))) ∧
    withinSeven (channelB (fullColor (g ++ 31#5))) (channelB (fullColor (g ++ 31#5 + 1#8))) := by
  unfold withinSeven
  revert g
  decide

/-- Settles O24: a hue at the end of a sextant is its guard bits and the offset 31. -/
theorem sextantBoundariesWithinSeven : Obligations.SextantBoundariesWithinSeven := by
  refine fun cfg => ⟨?boundary, ?table⟩
  case boundary =>
    intro h last
    have ends : h = hueGuard h ++ 31#5 := by rw [← last, guard_append_offset]
    simp only [hsvToRgb_full]
    rw [ends]
    exact fullColor_boundary (hueGuard h)
  case table =>
    simp only [hsvToRgb_full, List.forall_mem_cons, List.not_mem_nil]
    exact ⟨by decide, by decide, by decide, by decide, by decide, by decide, by decide, by decide, nofun⟩

end Sys2Proof.Machine
end

section
/-! SUPPORT. A fill as a function of its arguments (41_frame_generator.md R121 to R124), and its refusal (40_color_transform.md
R104). -/

namespace Sys2Proof.Machine

theorem filledBuf_wf {s : State} (canonical : BufferInv s) : Memory.wf s.cfg.n (filledBuf s) = true :=
  wf_fillMemory _ _ _ _ canonical

/-- Canonical buffers before a fill with the same arguments do not matter: the fill writes every entry (R122). -/
theorem filledBuf_eq {s s' : State} (cfg : s.cfg = s'.cfg) (off : s.hueOffset = s'.hueOffset) (canonical : BufferInv s)
    (canonical' : BufferInv s') : filledBuf s = filledBuf s' := by
  have wf := filledBuf_wf canonical
  have wf' := filledBuf_wf canonical'
  rw [← cfg] at wf'
  refine Memory.ext_of_wf wf wf' fun i => ?_
  rcases Nat.lt_or_ge i s.cfg.n with inFrame | past
  · rw [read_filledBuf_of_lt inFrame, read_filledBuf_of_lt (cfg ▸ inFrame), cfg, off]
  · rw [Memory.read_outside wf past, Memory.read_outside wf' past]

/-- Settles O26: the buffer is `filledBuf s`; filling again starts from a canonical buffer with the same arguments. -/
theorem fillDependsOnItsArgumentsAlone : Obligations.FillDependsOnItsArgumentsAlone := by
  intro s s' cfg off legal canonical canonical'
  have fill {u : State} (cfgU : s.cfg = u.cfg) (offU : s.hueOffset = u.hueOffset) (canonicalU : BufferInv u) :
      exec .fillRainbow u = .next { u with buf := filledBuf s } := by
    rw [filledBuf_eq cfgU offU canonical canonicalU]
    exact exec_fillRainbow_of_legal (cfgU ▸ legal)
  exact ⟨filledBuf s, fill rfl rfl canonical, fill cfg off canonical', fill rfl rfl (filledBuf_wf canonical)⟩

/-- Pixel i's hue as a sum of bytes. -/
theorem hueAt_eq (off : Byte) (step i : Nat) : hueAt off step i = off + BitVec.ofNat 8 (step * i) := by
  rw [hueAt, BitVec.ofNat_add, BitVec.ofNat_toNat, BitVec.setWidth_eq]

/-- Only STEP mod 256 matters (R124). -/
theorem hueAt_mod (off : Byte) (step i : Nat) : hueAt off (step % 256) i = hueAt off step i := by
  have sameProduct : BitVec.ofNat 8 (step % 256 * i) = BitVec.ofNat 8 (step * i) := by
    apply BitVec.eq_of_toNat_eq
    rw [BitVec.toNat_ofNat, BitVec.toNat_ofNat]
    exact Nat.mod_mul_mod ..
  rw [hueAt_eq, hueAt_eq, sameProduct]

theorem hueAt_succ (off : Byte) (step i : Nat) : hueAt off step (i + 1) = hueAt off step i + BitVec.ofNat 8 step := by
  rw [hueAt_eq, hueAt_eq, Nat.mul_succ, BitVec.ofNat_add, BitVec.add_assoc]

/-- An accumulator that adds a byte per pixel gives the hues of that step (R121). -/
theorem hueAt_accumulator (off : Byte) (step i : Nat) :
    hueAt off step i = (fun acc : Byte => acc + BitVec.ofNat 8 step)^[i] off := by
  induction i with
  | zero => simp [hueAt_eq]
  | succ i ih => rw [hueAt_succ, Function.iterate_succ_apply', ih]

/-- Settles O27. -/
theorem accumulatorGivesTheSameHues : Obligations.AccumulatorGivesTheSameHues := by
  intro off step i
  rw [← hueAt_accumulator, hueAt_mod]
  exact ⟨rfl, rfl⟩

/-- A frame needs the fill, so it refuses what the fill refuses. -/
theorem renderFrame_of_not_legal {s : State} (illegal : ¬ svLegal s.cfg) : renderFrame s = .refused .svOutOfRange := by
  rw [renderFrame, fillRainbow_of_not_legal illegal]
  rfl

/-- An iteration whose frame is due refuses what the frame refuses. -/
theorem execIterate_of_not_legal {s : State} (running : s.mode = .running) (frame : dueFrame s = true)
    (illegal : ¬ svLegal s.cfg) : execIterate s = .refused .svOutOfRange := by
  rw [execIterate_of_running running, if_pos frame]
  exact renderFrame_of_not_legal (by rwa [fireFrame_cfg, afterHb_cfg])

/-- Settles O28. -/
theorem constantsOutOfRangeAreRefused : Obligations.ConstantsOutOfRangeAreRefused := fun _ illegal =>
  ⟨fillRainbow_of_not_legal illegal, renderFrame_of_not_legal illegal,
    fun running frame => execIterate_of_not_legal running frame illegal⟩

end Sys2Proof.Machine
end

section
/-! SUPPORT. ITERATE's inversion by one state: when it answers, it answers `iterated s`, whose fields are read off once
(42_scheduler.md R135 to R140). -/

namespace Sys2Proof.Machine

/-- ITERATE answers when a due frame has legal constants; with no frame due the constants are not read. -/
theorem execIterate_of_renderable {s : State} (running : s.mode = .running)
    (renderable : dueFrame s = true → svLegal s.cfg) : execIterate s = .next (iterated s) := by
  cases frame : dueFrame s with
  | true => exact exec_iterate_of_legal running (renderable frame)
  | false =>
    rw [execIterate_of_running running]
    cases other : dueHue s || dueHb s with
    | true => simp [iterated, frame, other, ← afterHb_lastFrame s, ← afterHb_buf s]
    | false => simp [iterated, frame, other, ← afterHb_lastFrame s, ← afterHb_buf s, yieldIdle, emit]

/-- The states ITERATE answers on, and its one answer there. -/
theorem execIterate_next_iff {s t : State} : execIterate s = .next t ↔
    s.mode = .running ∧ (dueFrame s = true → svLegal s.cfg) ∧ t = iterated s := by
  constructor
  · intro h
    obtain ⟨running, answer⟩ := execIterate_next h
    have renderable : dueFrame s = true → svLegal s.cfg := by
      intro frame
      obtain ⟨-, legal, -⟩ | ⟨noFrame, -⟩ | ⟨noFrame, -⟩ := answer
      · rwa [fireFrame_cfg, afterHb_cfg] at legal
      · cases frame.symm.trans noFrame
      · cases frame.symm.trans noFrame
    rw [execIterate_of_renderable running renderable] at h
    exact ⟨running, renderable, (Host.Outcome.next.inj h).symm⟩
  · rintro ⟨running, renderable, rfl⟩
    exact execIterate_of_renderable running renderable

@[simp] theorem iterated_cfg (s : State) : (iterated s).cfg = s.cfg := by rw [iterated, afterHb_eq]
@[simp] theorem iterated_mode (s : State) : (iterated s).mode = s.mode := by rw [iterated, afterHb_eq]
@[simp] theorem iterated_fault (s : State) : (iterated s).fault = s.fault := by rw [iterated, afterHb_eq]
@[simp] theorem iterated_hueOffset (s : State) :
    (iterated s).hueOffset = if dueHue s then s.hueOffset + 1#8 else s.hueOffset := afterHb_hueOffset s
@[simp] theorem iterated_heartbeatOn (s : State) :
    (iterated s).heartbeatOn = if dueHb s then !s.heartbeatOn else s.heartbeatOn := by rw [iterated, afterHb_eq]
@[simp] theorem iterated_pinLevel (s : State) :
    (iterated s).pinLevel = if dueHb s then (if s.heartbeatOn then .low else .high) else s.pinLevel := by
  rw [iterated, afterHb_eq]
@[simp] theorem iterated_lastHue (s : State) : (iterated s).lastHue =
    if dueHue s then anchorAfter s.lastHue s.cfg.huePeriod (elapsedHue s) else s.lastHue := by rw [iterated, afterHb_eq]
@[simp] theorem iterated_lastHb (s : State) : (iterated s).lastHb =
    if dueHb s then anchorAfter s.lastHb s.cfg.hbPeriod (elapsedHb s) else s.lastHb := by rw [iterated, afterHb_eq]
@[simp] theorem iterated_lastFrame (s : State) : (iterated s).lastFrame =
    if dueFrame s then anchorAfter s.lastFrame s.cfg.framePeriod (elapsedFrame s) else s.lastFrame := rfl
@[simp] theorem iterated_buf (s : State) : (iterated s).buf = if dueFrame s then filledBuf (afterHb s) else s.buf := rfl
@[simp] theorem iterated_hsvIn (s : State) : (iterated s).hsvIn = s.hsvIn := by rw [iterated, afterHb_eq]
@[simp] theorem iterated_rgbaOut (s : State) : (iterated s).rgbaOut = s.rgbaOut := by rw [iterated, afterHb_eq]
@[simp] theorem iterated_now (s : State) : (iterated s).now = s.now := by rw [iterated, afterHb_eq]
@[simp] theorem iterated_pinAckHb (s : State) : (iterated s).pinAckHb = s.pinAckHb := by rw [iterated, afterHb_eq]
@[simp] theorem iterated_pinAckData (s : State) : (iterated s).pinAckData = s.pinAckData := by rw [iterated, afterHb_eq]
@[simp] theorem iterated_sinkStatus_eq (s : State) : (iterated s).sinkStatus = s.sinkStatus := by rw [iterated, afterHb_eq]
@[simp] theorem iterated_inputs (s : State) : (iterated s).inputs = s.inputs := by rw [iterated, afterHb_eq]
@[simp] theorem iterated_drawn (s : State) : (iterated s).drawn = s.drawn := by rw [iterated, afterHb_eq]

/-- The PinLevel events an iteration adds: one when the heartbeat is due, its level from the flag (R137). -/
theorem pinLevels_iterated (s : State) : pinLevels (iterated s).events =
    pinLevels s.events ++ (if dueHb s then [if s.heartbeatOn then .low else .high] else []) := by
  rw [iterated_events]
  cases dueHb s <;> cases dueFrame s <;> cases dueHue s <;> simp

/-- The SinkWrite events an iteration adds: one when the frame is due, its records from the advanced offset (R138, R140). -/
theorem sinkFrames_iterated (s : State) : sinkFrames (iterated s).events =
    sinkFrames s.events ++ (if dueFrame s then [frameRecords s.cfg (iterated s).hueOffset] else []) := by
  rw [iterated_events]
  cases dueHb s <;> cases dueFrame s <;> cases dueHue s <;> simp [afterHb_hueOffset]

end Sys2Proof.Machine
end

section
/-! SUPPORT. An iteration as the operations its due vector decodes to (30_encoding.md R69, 42_scheduler.md R135). -/

namespace Sys2Proof.Machine

/-- Running one list after another. -/
theorem runActions_append (is js : List Instr) (s : State) :
    runActions (is ++ js) s = andThen (runActions is s) (runActions js) := by
  induction is generalizing s with
  | nil => rfl
  | cons i is ih =>
    simp only [List.cons_append, runActions]
    cases exec i s with
    | next u => exact ih u
    | fault r => rfl
    | refused r => rfl

theorem andThen_of_next (s : State) (f : State → Host.Outcome State Fault Refusal) : andThen (.next s) f = f s := rfl

/-- No further operation leaves an outcome as it is. -/
theorem andThen_runActions_nil (o : Host.Outcome State Fault Refusal) : andThen o (runActions []) = o := by
  cases o <;> rfl

theorem runActions_singleton (i : Instr) (s : State) : runActions [i] s = exec i s := andThen_runActions_nil _

/-- An action that is performed or left out, and answers where it is performed. -/
theorem runActions_optional {i : Instr} {f : State → State} (answers : ∀ s, exec i s = .next (f s)) (c : Bool) (s : State) :
    runActions (if c then [i] else []) s = .next (if c then f s else s) := by
  cases c with
  | true => exact (runActions_singleton i s).trans (answers s)
  | false => rfl

/-- The hue and heartbeat actions on the moved anchors leave what those parts of the iteration leave, with the frame's anchor moved
already when it is due. -/
theorem runActions_hue_hb (s : State) :
    runActions ((if dueHue s then [Instr.hueAdvance] else []) ++ (if dueHb s then [Instr.hbToggle] else []))
      (moveAnchors (dueVector s) s) = .next (if dueFrame s then fireFrame (afterHb s) else afterHb s) := by
  obtain ⟨bitHue, bitHb, bitFrame, -⟩ := dueVector_bits s
  rw [runActions_append, runActions_optional (f := advanceHue) (fun _ => rfl), andThen_of_next,
    runActions_optional exec_hbToggle, moveAnchors, bitHue, bitHb, bitFrame, afterHb_eq]
  cases dueHue s <;> cases dueHb s <;> cases dueFrame s <;> simp [toggleHeartbeat_eq, advanceHue, fireFrame, elapsedFrame]

/-- Settles O43: after the two parts that always answer, both sides end in the frame, or in the yield, or in nothing. -/
theorem iterateRunsTheDecodedActions : Obligations.IterateRunsTheDecodedActions := by
  intro s running
  obtain ⟨bitHue, bitHb, bitFrame, nothingDue⟩ := dueVector_bits s
  rw [exec_iterate, execIterate_of_running running, decodeDue3_eq, bitHue, bitHb, bitFrame, runActions_append,
    runActions_append _ (if dueFrame s then _ else _), runActions_hue_hb, andThen_of_next]
  cases frame : dueFrame s with
  | true =>
    have notIdle : dueVector s ≠ 0b000#3 := by simp [nothingDue, frame]
    rw [if_pos rfl, if_pos rfl, if_pos rfl, if_neg notIdle, andThen_runActions_nil, runActions_singleton]
    rfl
  | false =>
    cases other : dueHue s || dueHb s with
    | true =>
      have notIdle : dueVector s ≠ 0b000#3 := by
        rw [Ne, nothingDue]
        rintro ⟨noHue, noHb, -⟩
        simp [noHue, noHb] at other
      rw [if_neg notIdle]
      rfl
    | false =>
      obtain ⟨noHue, noHb⟩ := Bool.or_eq_false_iff.1 other
      rw [if_pos (nothingDue.2 ⟨noHue, noHb, frame⟩)]
      rfl

end Sys2Proof.Machine
end

section
/-! SUPPORT. What the operations leave unchanged (10_state.md R20, R28), and the faults and advances that follow from it. -/

namespace Sys2Proof.Machine

/-- Settles O30, along the answers of START. -/
theorem faultingStartIsPrecise : Obligations.FaultingStartIsPrecise := by
  intro s t started halted
  obtain ⟨-, ⟨-, rfl⟩ | ⟨-, hb, rfl⟩ | ⟨-, hb, data, rfl⟩ | ⟨-, -, -, rfl⟩⟩ := execStart_next started
  · exact ⟨[], by rw [List.append_nil]; rfl, .inl ⟨rfl, rfl⟩⟩
  · exact ⟨_, rfl, .inr (.inl ⟨rfl, hb, rfl⟩)⟩
  · refine ⟨_, ?_, .inr (.inr ⟨rfl, hb, data, rfl⟩)⟩
    rw [emit_pinConfigs]
    rfl
  · cases halted

/-- The one START that ends in RUNNING (42_scheduler.md R131). -/
theorem execStart_next_running {s t : State} (started : execStart s = .next t) (running : t.mode = .running) :
    configValid s.cfg = true ∧
      t = enterRunning { s with events := s.events ++ [.pinConfig .hbPin, .pinConfig .dataPin] } := by
  obtain ⟨-, ⟨-, rfl⟩ | ⟨-, -, rfl⟩ | ⟨-, -, -, rfl⟩ | ⟨valid, -, -, rfl⟩⟩ := execStart_next started
  · cases running
  · cases running
  · cases running
  · exact ⟨valid, by rw [emit_pinConfigs]⟩

/-! ### The writers of each element -/

/-- Each element that differs between `s` and `t` has `i` among its writers (10_state.md R20, the writers column); the
configuration, the input ports and the stimuli do not differ. -/
def OnlyWritten (i : Instr) (s t : State) : Prop :=
  (t.mode ≠ s.mode → i = .start) ∧
  (t.fault ≠ s.fault → i = .start) ∧
  (t.hueOffset ≠ s.hueOffset → i = .start ∨ i = .hueAdvance ∨ i = .iterate) ∧
  (t.heartbeatOn ≠ s.heartbeatOn → i = .start ∨ i = .hbToggle ∨ i = .iterate) ∧
  (t.pinLevel ≠ s.pinLevel → i = .hbToggle ∨ i = .iterate) ∧
  (t.lastHue ≠ s.lastHue ∨ t.lastHb ≠ s.lastHb ∨ t.lastFrame ≠ s.lastFrame → i = .start ∨ i = .iterate) ∧
  (t.buf ≠ s.buf → i = .fillRainbow ∨ i = .frameRender ∨ i = .iterate) ∧
  (t.cfg = s.cfg ∧ t.now = s.now ∧ t.pinAckHb = s.pinAckHb ∧ t.pinAckData = s.pinAckData ∧
    t.sinkStatus = s.sinkStatus ∧ t.inputs = s.inputs ∧ t.drawn = s.drawn)

/-- The ports are written by the transform alone, and are no element of R20's table. -/
theorem onlyWritten_drivePorts (i : Instr) (w : Hsv24) (p : Rgba32) (s : State) : OnlyWritten i s (drivePorts w p s) := by
  simp [OnlyWritten]

theorem onlyWritten_setBuf (m : Memory) (s : State) : OnlyWritten .fillRainbow s (setBuf m s) := by
  simp [OnlyWritten]

theorem onlyWritten_start {s t : State} (started : execStart s = .next t) : OnlyWritten .start s t := by
  obtain ⟨-, ⟨-, rfl⟩ | ⟨-, -, rfl⟩ | ⟨-, -, -, rfl⟩ | ⟨-, -, -, rfl⟩⟩ := execStart_next started <;> simp [OnlyWritten]

theorem onlyWritten_iterated (s : State) : OnlyWritten .iterate s (iterated s) := by
  simp [OnlyWritten]

theorem onlyWritten_advanceHue (s : State) : OnlyWritten .hueAdvance s (advanceHue s) := by
  simp [OnlyWritten]

theorem onlyWritten_toggleHeartbeat (s : State) : OnlyWritten .hbToggle s (toggleHeartbeat s) := by
  simp [OnlyWritten]

theorem onlyWritten_rendered (s : State) : OnlyWritten .frameRender s (rendered s) := by
  simp [OnlyWritten, rendered]

theorem onlyWritten_yieldIdle (s : State) : OnlyWritten .idleYield s (yieldIdle s) := by
  simp [OnlyWritten]

/-- A fill that answers wrote the buffer. -/
theorem fillRainbow_next {s t : State} (filled : fillRainbow s = .next t) : t = setBuf (filledBuf s) s := by
  by_cases legal : svLegal s.cfg
  · rw [fillRainbow_of_legal legal] at filled
    exact (Host.Outcome.next.inj filled).symm
  · rw [fillRainbow_of_not_legal legal] at filled
    cases filled

/-- Settles O45, operation by operation. -/
theorem onlyItsWritersChangeAnElement : Obligations.OnlyItsWritersChangeAnElement := by
  intro i s t answered
  change OnlyWritten i s t
  cases i with
  | hsv2rgbS0 | hsv2rgbS1 | hsv2rgbS2 | hsv2rgbS3 | hsv2rgbS4 | hsv2rgbS5 | hsv2rgbS6 | hsv2rgbS7 | hsv2rgb =>
    cases answered
    exact onlyWritten_drivePorts ..
  | fillRainbow =>
    cases fillRainbow_next answered
    exact onlyWritten_setBuf ..
  | start => exact onlyWritten_start answered
  | iterate =>
    obtain ⟨-, -, rfl⟩ := execIterate_next_iff.1 answered
    exact onlyWritten_iterated s
  | hueAdvance =>
    cases answered
    exact onlyWritten_advanceHue s
  | hbToggle =>
    cases answered
    exact onlyWritten_toggleHeartbeat s
  | frameRender =>
    obtain ⟨-, rfl⟩ := renderFrame_next answered
    exact onlyWritten_rendered s
  | idleYield =>
    cases answered
    exact onlyWritten_yieldIdle s

/-! ### The hue offset after any actions (42_scheduler.md R145) -/

/-- Of the four actions HUE_ADVANCE alone moves the hue offset, by 1. -/
theorem exec_action_hueOffset {i : Instr} {s t : State} (action : isAction i = true) (answered : exec i s = .next t) :
    t.hueOffset = s.hueOffset + BitVec.ofNat 8 ([i].count .hueAdvance) := by
  obtain ⟨-, -, hueWriters, -⟩ := onlyItsWritersChangeAnElement i s t answered
  by_cases advance : i = .hueAdvance
  · subst advance
    rw [exec_hueAdvance] at answered
    cases answered
    rfl
  · have kept : t.hueOffset = s.hueOffset := by
      by_contra moved
      obtain rfl | rfl | rfl := hueWriters moved
      · cases action
      · exact advance rfl
      · cases action
    rw [List.count_singleton, if_neg (by simpa using advance), kept]
    simp

/-- A list of actions moves the hue offset by the number of its advances. -/
theorem runActions_hueOffset {is : List Instr} {s t : State} (actions : ∀ i ∈ is, isAction i = true)
    (answered : runActions is s = .next t) : t.hueOffset = s.hueOffset + BitVec.ofNat 8 (is.count .hueAdvance) := by
  induction is generalizing s with
  | nil =>
    cases answered
    simp
  | cons i is ih =>
    obtain ⟨u, first, rest⟩ := andThen_next.1 answered
    rw [ih (fun j mem => actions j (List.mem_cons_of_mem i mem)) rest,
      exec_action_hueOffset (actions i List.mem_cons_self) first, BitVec.add_assoc, ← BitVec.ofNat_add,
      ← List.count_append]
    rfl

/-- Settles O38: START writes the offset 0. -/
theorem hueOffsetCountsTheAdvances : Obligations.HueOffsetCountsTheAdvances := by
  intro s t0 t is started running actions answered
  obtain ⟨-, rfl⟩ := execStart_next_running started running
  rw [runActions_hueOffset actions answered, enterRunning_hueOffset, BitVec.zero_add, BitVec.toNat_ofNat]

/-! ### The SinkWrite events of a step (70_reset_and_hazards.md R197) -/

/-- START adds events, and none of them is a SinkWrite. -/
theorem execStart_events {s t : State} (started : execStart s = .next t) :
    ∃ added, t.events = s.events ++ added ∧ sinkFrames added = [] := by
  obtain ⟨-, ⟨-, rfl⟩ | ⟨-, -, rfl⟩ | ⟨-, -, -, rfl⟩ | ⟨-, -, -, rfl⟩⟩ := execStart_next started
  · exact ⟨[], (List.append_nil _).symm, rfl⟩
  · exact ⟨_, rfl, rfl⟩
  · exact ⟨_, List.append_assoc .., rfl⟩
  · exact ⟨_, List.append_assoc .., rfl⟩

/-- An iteration adds at most one SinkWrite. -/
theorem iterated_added (s : State) :
    ∃ added, (iterated s).events = s.events ++ added ∧ (sinkFrames added).length ≤ 1 := by
  refine ⟨_, iterated_events s, ?_⟩
  cases dueHb s <;> cases dueFrame s <;> cases dueHue s <;> simp

/-- Settles O46, along the cases of a step. -/
theorem atMostOneSinkWriteAStep : Obligations.AtMostOneSinkWriteAStep := by
  intro s t answers noReset
  obtain ⟨reset, -⟩ | ⟨_, _, _, _, -, -, started⟩ | ⟨_, _, _, _, -, running, answered⟩ | ⟨_, -, colored⟩ := step_next answers
  · exact absurd reset noReset
  · obtain ⟨added, grown, noFrame⟩ := execStart_events started
    exact ⟨added, grown, by simp [noFrame], fun frame => absurd noFrame frame⟩
  · obtain ⟨-, -, rfl⟩ := execIterate_next_iff.1 answered
    obtain ⟨added, grown, atMostOne⟩ := iterated_added (present _ _ _ _ (consume s))
    exact ⟨added, grown, atMostOne, fun _ => ⟨running, (iterated_mode _).trans running⟩⟩
  · rw [exec_decodeHsv24] at colored
    cases colored
    exact ⟨[], (List.append_nil _).symm, Nat.zero_le 1, fun frame => absurd rfl frame⟩

end Sys2Proof.Machine
end

section
/-! SUPPORT. Runs of Scheduler steps from RUNNING: each is one iteration at its draws, so a whole run is a fold of them, and what every
iteration keeps the run keeps. -/

namespace Sys2Proof.Machine

/-- `s` with the draws `d` on its input ports, and the stimulus that brought them counted. -/
def presented (d : Draws) (s : State) : State := present d.now d.ackHb d.ackData d.sink { s with drawn := s.drawn + 1 }

/-- What one Scheduler step with the draws `d` leaves of a RUNNING state. -/
def iterateWith (d : Draws) (s : State) : State := iterated (presented d s)

/-- What Scheduler steps with these draws leave, one after another. -/
def iterateAll (ds : List Draws) (s : State) : State := ds.foldl (fun u d => iterateWith d u) s

@[simp] theorem iterateAll_nil (s : State) : iterateAll [] s = s := rfl

@[simp] theorem iterateAll_cons (d : Draws) (ds : List Draws) (s : State) :
    iterateAll (d :: ds) s = iterateAll ds (iterateWith d s) := rfl

theorem iterateWith_cfg (d : Draws) (s : State) : (iterateWith d s).cfg = s.cfg := iterated_cfg _

theorem iterateWith_mode (d : Draws) (s : State) : (iterateWith d s).mode = s.mode := iterated_mode _

theorem iterateWith_inputs (d : Draws) (s : State) : (iterateWith d s).inputs = s.inputs := iterated_inputs _

/-- What the draws and every iteration keep, a run of iterations keeps. -/
theorem iterateAll_keeps {P : State → Prop} (draws : ∀ d s, P s → P (presented d s)) (iteration : ∀ s, P s → P (iterated s))
    {s : State} (holds : P s) (ds : List Draws) : P (iterateAll ds s) := by
  induction ds generalizing s with
  | nil => exact holds
  | cons d ds ih => exact ih (iteration _ (draws d s holds))

/-- No part of an iteration reads the stimuli still to come. -/
theorem iterated_withInputs (s : State) (xs : List Stimulus) :
    iterated { s with inputs := xs } = { iterated s with inputs := xs } := by
  have parts : afterHb { s with inputs := xs } = { afterHb s with inputs := xs } := by
    rw [afterHb_eq, afterHb_eq]
    rfl
  rw [iterated, parts]
  rfl

theorem withDraws_eq (s : State) (ds : List Draws) :
    s.withDraws ds = { s with inputs := ds.map Draws.stimulus ++ s.inputs } := rfl

/-- The first of a list of Scheduler steps is one iteration, on to the state with the others ahead. -/
theorem step_withDraws_of_legal {s : State} (running : s.mode = .running) (legal : svLegal s.cfg) (d : Draws) (ds : List Draws) :
    step (s.withDraws (d :: ds)) = .next ((iterateWith d s).withDraws ds) := by
  have others : step (s.withDraws (d :: ds)) = execIterate (presented d (s.withDraws ds)) := step_withDraws running d ds
  have iteration : iterated (presented d (s.withDraws ds)) = (iterateWith d s).withDraws ds := by
    rw [withDraws_eq (iterateWith d s), iterateWith_inputs]
    exact iterated_withInputs (presented d s) _
  rw [others, ← iteration]
  exact exec_iterate_of_legal running legal

/-- A run of Scheduler steps from RUNNING with legal constants answers the fold of its iterations (42_scheduler.md R130, R141). -/
theorem run_withDraws {s : State} (running : s.mode = .running) (legal : svLegal s.cfg) (ds : List Draws) :
    Host.Core.run core ds.length (s.withDraws ds) = .next (iterateAll ds s) := by
  induction ds generalizing s with
  | nil => rfl
  | cons d ds ih =>
    have running' : (iterateWith d s).mode = .running := (iterateWith_mode d s).trans running
    have legal' : svLegal (iterateWith d s).cfg := (iterateWith_cfg d s).symm ▸ legal
    rw [List.length_cons, run_of_next (step_withDraws_of_legal running legal d ds), ih running' legal', iterateAll_cons]

end Sys2Proof.Machine
end

section
/-! SUPPORT. The alternation of the heartbeat (42_scheduler.md R144), and the machine's invariant over every operation. -/

namespace Sys2Proof.Machine

/-! ### The heartbeat -/

/-- The levels alternate from HIGH on, and the flag says whether their number is odd. -/
def Alternates (levels : List Level) (flag : Bool) : Prop :=
  levels = alternation levels.length ∧ flag = decide (levels.length % 2 = 1)

theorem alternates_nil : Alternates [] false := ⟨rfl, rfl⟩

/-- The flag is on exactly when the next level is LOW. -/
theorem levelAt_of_flag {k : Nat} {flag : Bool} (parity : flag = decide (k % 2 = 1)) :
    (if flag then .low else .high) = levelAt k := by
  subst parity
  rcases Nat.mod_two_eq_zero_or_one k with even | odd
  · simp [levelAt, even]
  · simp [levelAt, odd]

/-- The pin after the next toggle. -/
theorem pinAfter_of_flag {k : Nat} {flag : Bool} (parity : flag = decide (k % 2 = 1)) :
    (if flag then .low else .high) = pinAfter (k + 1) := by
  subst parity
  rcases Nat.mod_two_eq_zero_or_one k with even | odd
  · simp [pinAfter, even]
  · simp [pinAfter, odd]

/-- A toggle goes on with the alternation. -/
theorem Alternates.toggle {levels : List Level} {flag : Bool} (alternates : Alternates levels flag) :
    Alternates (levels ++ [if flag then .low else .high]) (!flag) := by
  obtain ⟨levelsEq, parity⟩ := alternates
  refine ⟨?levels, ?parity⟩
  case levels =>
    rw [List.length_append, List.length_singleton, alternation_succ, ← levelsEq, levelAt_of_flag parity]
  case parity =>
    rw [List.length_append, List.length_singleton, parity]
    rcases Nat.mod_two_eq_zero_or_one levels.length with even | odd
    · simp [Nat.add_mod, even]
    · simp [Nat.add_mod, odd]

/-- An iteration toggles once when the heartbeat is due, and leaves flag and pin alone otherwise. -/
theorem Alternates.iterated {levels : List Level} {s : State} (alternates : Alternates levels s.heartbeatOn) :
    Alternates (levels ++ (if dueHb s then [if s.heartbeatOn then .low else .high] else [])) (iterated s).heartbeatOn := by
  rw [iterated_heartbeatOn]
  cases dueHb s with
  | true => exact alternates.toggle
  | false => rwa [if_neg (by decide), if_neg (by decide), List.append_nil]

/-- The events since `before` are those of an alternating heartbeat. -/
def HeartbeatSince (before : List Event) (s : State) : Prop :=
  ∃ added, s.events = before ++ added ∧ Alternates (pinLevels added) s.heartbeatOn

theorem heartbeatSince_iterated {before : List Event} {s : State} (since : HeartbeatSince before s) :
    HeartbeatSince before (iterated s) := by
  obtain ⟨added, grown, alternates⟩ := since
  refine ⟨added ++ _, by rw [iterated_events, grown, List.append_assoc], ?_⟩
  have toggled := alternates.iterated
  rw [pinLevels_append]
  convert toggled using 2
  cases dueHb s <;> cases dueFrame s <;> cases dueHue s <;> simp

/-- Settles O51: START leaves the flag off with no level since, and every iteration goes on with the alternation. -/
theorem heartbeatStrictlyAlternates : Obligations.HeartbeatStrictlyAlternates := by
  intro s t0 ds started running
  obtain ⟨valid, rfl⟩ := execStart_next_running started running
  obtain ⟨-, -, -, legal⟩ := configValid_bounds valid
  set t0 := enterRunning { s with events := s.events ++ [.pinConfig .hbPin, .pinConfig .dataPin] }
  have atStart : HeartbeatSince t0.events t0 := ⟨[], (List.append_nil _).symm, alternates_nil⟩
  obtain ⟨added, grown, alternates, -⟩ := iterateAll_keeps (P := HeartbeatSince t0.events)
    (fun _ _ since => since) (fun _ => heartbeatSince_iterated) atStart ds
  exact ⟨_, added, run_withDraws running legal ds, grown, alternates⟩

end Sys2Proof.Machine
end

section
/-! SUPPORT. The machine's invariant: what holds after a reset event, and what every operation keeps of it. -/

namespace Sys2Proof.Machine

/-- The invariant reads neither the stimuli nor the input ports. -/
theorem inv_draw {s : State} (inv : Inv s) (n : Time) (a b : Ack) (k : SinkStatus) : Inv (present n a b k (consume s)) := inv

/-! ### Reset -/

/-- A reset event leaves nothing but the ports to hold the invariant (70_reset_and_hazards.md R190). -/
theorem inv_resetEvent {s : State} (ports : PortInv s) : Inv (resetEvent s) :=
  ⟨Memory.wf_nil _, ports, ⟨by simp, nofun⟩, ⟨rfl, rfl, nofun, fun _ => rfl⟩, rfl⟩

/-- Settles O48: the power-on state is what a reset event leaves of it. -/
theorem resetStateMeetsTheInvariant : Obligations.ResetStateMeetsTheInvariant :=
  inv_resetEvent (s := State.reset) (by unfold PortInv; decide)

/-! ### The transform and START -/

/-- A word on `hsv_in` moves the ports to a word and its transform (10_state.md R32). -/
theorem inv_drivePorts {s : State} (inv : Inv s) (w : Hsv24) :
    Inv (drivePorts w (hsvToRgb s.cfg (fieldH w) (fieldS w) (fieldV w)) s) := by
  obtain ⟨buffer, -, mode, heartbeat, frames⟩ := inv
  exact ⟨buffer, rfl, mode, heartbeat, frames⟩

/-- START records a fault with HALTED, or enters RUNNING with a legal configuration (42_scheduler.md R131). -/
theorem modeInv_execStart {s t : State} (inv : ModeInv s) (started : execStart s = .next t) : ModeInv t := by
  obtain ⟨faultInHalted, -⟩ := inv
  obtain ⟨reset, ⟨-, rfl⟩ | ⟨-, -, rfl⟩ | ⟨-, -, -, rfl⟩ | ⟨valid, -, -, rfl⟩⟩ := execStart_next started
  · exact ⟨by simp, nofun⟩
  · exact ⟨by simp, nofun⟩
  · exact ⟨by simp, nofun⟩
  · have noFault : s.fault = .none := by simpa [reset] using faultInHalted
    exact ⟨by simp [noFault], fun _ => valid⟩

/-- START emits no PinLevel and no SinkWrite event, and leaves pin, ports and buffer as they were. -/
theorem execStart_frame {s t : State} (started : execStart s = .next t) :
    t.cfg = s.cfg ∧ t.buf = s.buf ∧ t.hsvIn = s.hsvIn ∧ t.rgbaOut = s.rgbaOut ∧ t.pinLevel = s.pinLevel ∧
    pinLevels t.events = pinLevels s.events ∧ t.events.all (frameEvent s.cfg.n) = s.events.all (frameEvent s.cfg.n) ∧
    (t.mode = .running → t.heartbeatOn = false) := by
  obtain ⟨-, ⟨-, rfl⟩ | ⟨-, -, rfl⟩ | ⟨-, -, -, rfl⟩ | ⟨-, -, -, rfl⟩⟩ := execStart_next started <;> simp

theorem inv_execStart {s t : State} (inv : Inv s) (started : execStart s = .next t) : Inv t := by
  obtain ⟨buffer, ports, mode, ⟨-, pin, -, stoppedLevels⟩, frames⟩ := inv
  obtain ⟨cfg, buf, hsvIn, rgbaOut, pinLevel, levels, sinks, flag⟩ := execStart_frame started
  obtain ⟨reset, -⟩ := execStart_next started
  have noLevels : pinLevels s.events = [] := stoppedLevels (by simp [reset])
  refine ⟨?buffer, ?ports, modeInv_execStart mode started, ⟨?alternation, ?pin, ?flag, ?noLevels⟩, ?frames⟩
  case buffer => rwa [BufferInv, cfg, buf]
  case ports => rwa [PortInv, cfg, hsvIn, rgbaOut]
  case alternation => rw [levels, noLevels]; rfl
  case pin => rw [levels, pinLevel, pin]
  case flag => intro running; rw [levels, noLevels, flag running]; rfl
  case noLevels => intro _; rw [levels, noLevels]
  case frames => rwa [FrameInv, cfg, sinks]

/-! ### ITERATE -/

/-- Every record the transform answers is opaque (40_color_transform.md R101). -/
theorem channelA_hsvToRgb (cfg : Configuration) (h s v : Byte) : channelA (hsvToRgb cfg h s v) = 255#8 := by
  obtain ⟨-, -, -, alpha⟩ := channels_pack (finishTriple cfg (rawOf h) s v).r (finishTriple cfg (rawOf h) s v).g
    (finishTriple cfg (rawOf h) s v).b
  exact alpha

/-- A frame is N opaque records (30_encoding.md R65). -/
theorem frameEvent_frameRecords (cfg : Configuration) (off : Byte) :
    frameEvent cfg.n (.sinkWrite (frameRecords cfg off)) = true := by
  simp [frameEvent, frameRecords, channelA_hsvToRgb]

theorem bufferInv_iterated {s : State} (inv : BufferInv s) : BufferInv (iterated s) := by
  rw [BufferInv, iterated_cfg, iterated_buf]
  cases dueFrame s with
  | true =>
    have before : BufferInv (afterHb s) := by rwa [BufferInv, afterHb_cfg, afterHb_buf]
    rw [if_pos rfl, ← afterHb_cfg s]
    exact filledBuf_wf before
  | false => exact inv

/-- In RUNNING the heartbeat's part of the invariant is the alternation and the pin's level after it. -/
theorem heartbeatInv_iff_of_running {s : State} (running : s.mode = .running) :
    HeartbeatInv s ↔ Alternates (pinLevels s.events) s.heartbeatOn ∧ s.pinLevel = pinAfter (pinLevels s.events).length := by
  constructor
  · rintro ⟨levels, pin, flag, -⟩
    exact ⟨⟨levels, flag running⟩, pin⟩
  · rintro ⟨⟨levels, flag⟩, pin⟩
    exact ⟨levels, pin, fun _ => flag, fun stopped => absurd running stopped⟩

theorem heartbeatInv_iterated {s : State} (running : s.mode = .running) (inv : HeartbeatInv s) : HeartbeatInv (iterated s) := by
  obtain ⟨alternates, pin⟩ := (heartbeatInv_iff_of_running running).1 inv
  rw [heartbeatInv_iff_of_running ((iterated_mode s).trans running), pinLevels_iterated, iterated_pinLevel]
  refine ⟨alternates.iterated, ?_⟩
  obtain ⟨-, parity⟩ := alternates
  cases dueHb s with
  | true => simpa using pinAfter_of_flag parity
  | false => simpa using pin

theorem frameInv_iterated {s : State} (inv : FrameInv s) : FrameInv (iterated s) := by
  rw [FrameInv, iterated_cfg, iterated_events, List.all_append, inv]
  cases dueHb s <;> cases dueFrame s <;> cases dueHue s <;> simp [frameEvent_frameRecords]

theorem inv_iterated {s : State} (running : s.mode = .running) (inv : Inv s) : Inv (iterated s) := by
  obtain ⟨buffer, ports, mode, heartbeat, frames⟩ := inv
  refine ⟨bufferInv_iterated buffer, ?ports, ?mode, heartbeatInv_iterated running heartbeat, frameInv_iterated frames⟩
  case ports => rwa [PortInv, iterated_cfg, iterated_hsvIn, iterated_rgbaOut]
  case mode => rwa [ModeInv, iterated_cfg, iterated_mode, iterated_fault]

/-! ### Every step -/

/-- Settles O49, along the cases of a step. -/
theorem everyStepKeepsTheInvariant : Obligations.EveryStepKeepsTheInvariant := by
  intro s t inv answers
  obtain ⟨-, rfl⟩ | ⟨n, a, b, k, -, -, started⟩ | ⟨n, a, b, k, -, running, answered⟩ | ⟨w, -, colored⟩ := step_next answers
  · obtain ⟨-, ports, -⟩ := inv
    exact inv_resetEvent (s := consume s) ports
  · exact inv_execStart (inv_draw inv n a b k) started
  · obtain ⟨-, -, rfl⟩ := execIterate_next_iff.1 answered
    exact inv_iterated running (inv_draw inv n a b k)
  · rw [exec_decodeHsv24] at colored
    cases colored
    exact inv_drivePorts (s := consume s) inv w

/-- A RUNNING state that meets the invariant has recorded no fault. -/
theorem fault_none_of_running {s : State} (inv : Inv s) (running : s.mode = .running) : s.fault = .none := by
  obtain ⟨-, -, ⟨faultInHalted, -⟩, -⟩ := inv
  by_contra fault
  cases running.symm.trans (faultInHalted.2 fault)

/-- RUNNING, within the invariant, with these stimuli still to come. -/
def RunsBefore (xs : List Stimulus) (s : State) : Prop := Inv s ∧ s.mode = .running ∧ s.inputs = xs

theorem runsBefore_iterated {xs : List Stimulus} {s : State} (runs : RunsBefore xs s) : RunsBefore xs (iterated s) := by
  obtain ⟨inv, running, inputs⟩ := runs
  exact ⟨inv_iterated running inv, (iterated_mode s).trans running, (iterated_inputs s).trans inputs⟩

/-- Settles O50: every iteration keeps the invariant and RUNNING, and leaves the stimuli to come alone. -/
theorem runningNeverStops : Obligations.RunningNeverStops := by
  intro s ds inv running
  have ⟨_, _, ⟨_, legalConfig⟩, _⟩ := inv
  obtain ⟨-, -, -, legal⟩ := configValid_bounds (legalConfig running)
  obtain ⟨inv', running', inputs'⟩ := iterateAll_keeps (P := RunsBefore s.inputs) (fun _ _ runs => runs)
    (fun _ => runsBefore_iterated) ⟨inv, running, rfl⟩ ds
  exact ⟨iterateAll ds s, run_withDraws running legal ds, running', fault_none_of_running inv' running', inputs'⟩

end Sys2Proof.Machine
end

section
/-! SUPPORT. One trigger on its grid (42_scheduler.md R143): its elapsed time is the true one, it is due exactly when a grid point has
been passed, and its anchor moves to the latest grid point. -/

namespace Sys2Proof.Machine

/-- The latest grid point at or before `t` of a trigger with period `p` started at `t0`. -/
def gridPoint (t0 p t : Nat) : Nat := t0 + p * periodsPassed t0 p t

theorem gridAnchor_eq (t0 p t : Nat) : gridAnchor t0 p t = BitVec.ofNat 32 (gridPoint t0 p t) := rfl

theorem gridPoint_le {t0 t : Nat} (p : Nat) (started : t0 ≤ t) : gridPoint t0 p t ≤ t := by
  have := Nat.mul_div_le (t - t0) p
  rw [gridPoint, periodsPassed]
  omega

theorem lt_gridPoint_add {t0 p t : Nat} (positive : 1 ≤ p) : t < gridPoint t0 p t + p := by
  have := Nat.lt_mul_div_succ (t - t0) positive
  rw [Nat.mul_add] at this
  rw [gridPoint, periodsPassed]
  omega

theorem periodsPassed_mono {t0 p t t' : Nat} (later : t ≤ t') : periodsPassed t0 p t ≤ periodsPassed t0 p t' :=
  Nat.div_le_div_right (Nat.sub_le_sub_right later t0)

theorem periodsPassed_self (t0 p : Nat) : periodsPassed t0 p t0 = 0 := by
  rw [periodsPassed, Nat.sub_self, Nat.zero_div]

/-- The periods passed by `t'` are those passed by `t` and those since the grid point of `t`. -/
theorem periodsPassed_add {t0 p t t' : Nat} (positive : 1 ≤ p) (started : t0 ≤ t) (later : t ≤ t') :
    periodsPassed t0 p t' = periodsPassed t0 p t + (t' - gridPoint t0 p t) / p := by
  have point := gridPoint_le p started
  have split : t' - t0 = p * periodsPassed t0 p t + (t' - gridPoint t0 p t) := by
    rw [gridPoint] at *
    omega
  rw [periodsPassed, split, Nat.mul_add_div positive]

/-- The grid point of `t'` lies the whole periods since then after the grid point of `t`. -/
theorem gridPoint_add {t0 p t t' : Nat} (positive : 1 ≤ p) (started : t0 ≤ t) (later : t ≤ t') :
    gridPoint t0 p t' = gridPoint t0 p t + p * ((t' - gridPoint t0 p t) / p) := by
  rw [gridPoint, periodsPassed_add positive started later, Nat.mul_add, ← Nat.add_assoc]
  rfl

/-- A whole period since the grid point of `t` passes the next one. -/
theorem period_le_iff_passes {t0 p t t' : Nat} (positive : 1 ≤ p) (started : t0 ≤ t) (later : t ≤ t') :
    p ≤ t' - gridPoint t0 p t ↔ periodsPassed t0 p t < periodsPassed t0 p t' := by
  rw [periodsPassed_add positive started later, Nat.lt_add_right_iff_pos, Nat.div_pos_iff]
  omega

/-- With no gap over 2^TIME_W less the period, the modular elapsed time is the true one since the grid point (R132, R194). -/
theorem elapsed_gridAnchor {t0 p t t' : Nat} (positive : 1 ≤ p) (atMost : p ≤ 2 ^ 32) (started : t0 ≤ t) (later : t ≤ t')
    (gap : t' - t ≤ 2 ^ 32 - p) :
    (elapsed (BitVec.ofNat 32 t') (gridAnchor t0 p t)).toNat = t' - gridPoint t0 p t := by
  have point := gridPoint_le p started
  have next := lt_gridPoint_add (t0 := t0) (t := t) positive
  have time : t' = gridPoint t0 p t + (t' - gridPoint t0 p t) := by omega
  rw [gridAnchor_eq]
  conv_lhs => rw [time]
  exact elapsed_ofNat_add _ (by omega)

/-- The due test of a trigger on its grid (R143, item 2). -/
theorem isDue_gridAnchor {t0 p t t' : Nat} (positive : 1 ≤ p) (atMost : p ≤ 2 ^ 32) (started : t0 ≤ t) (later : t ≤ t')
    (gap : t' - t ≤ 2 ^ 32 - p) : isDue p (elapsed (BitVec.ofNat 32 t') (gridAnchor t0 p t)) =
      decide (periodsPassed t0 p t < periodsPassed t0 p t') := by
  rw [isDue, elapsed_gridAnchor positive atMost started later gap, decide_eq_decide]
  exact period_le_iff_passes positive started later

/-- The anchor update of a trigger on its grid (R143, item 1). -/
theorem anchorAfter_gridAnchor {t0 p t t' : Nat} (positive : 1 ≤ p) (atMost : p ≤ 2 ^ 32) (started : t0 ≤ t) (later : t ≤ t')
    (gap : t' - t ≤ 2 ^ 32 - p) :
    anchorAfter (gridAnchor t0 p t) p (elapsed (BitVec.ofNat 32 t') (gridAnchor t0 p t)) = gridAnchor t0 p t' := by
  rw [anchorAfter, elapsed_gridAnchor positive atMost started later gap, gridAnchor_eq t0 p t',
    gridPoint_add positive started later, BitVec.ofNat_add, BitVec.ofNat_add, BitVec.ofNat_toNat, BitVec.setWidth_eq]
  rfl

/-- A trigger that is due moves to its new grid point; one that is not stands there already. -/
theorem anchor_gridAnchor {t0 p t t' : Nat} (positive : 1 ≤ p) (atMost : p ≤ 2 ^ 32) (started : t0 ≤ t) (later : t ≤ t')
    (gap : t' - t ≤ 2 ^ 32 - p) :
    (if isDue p (elapsed (BitVec.ofNat 32 t') (gridAnchor t0 p t)) then
        anchorAfter (gridAnchor t0 p t) p (elapsed (BitVec.ofNat 32 t') (gridAnchor t0 p t))
      else gridAnchor t0 p t) = gridAnchor t0 p t' := by
  rw [isDue_gridAnchor positive atMost started later gap]
  by_cases passes : periodsPassed t0 p t < periodsPassed t0 p t'
  · rw [decide_eq_true passes, if_pos rfl]
    exact anchorAfter_gridAnchor positive atMost started later gap
  · have samePeriods := Nat.le_antisymm (periodsPassed_mono later) (Nat.not_lt.1 passes)
    rw [decide_eq_false passes, if_neg (by decide), gridAnchor, gridAnchor, samePeriods]

end Sys2Proof.Machine
end

section
/-! SUPPORT. Iterations under the environment's duties (70_reset_and_hazards.md R194): all three anchors stay on their grids, and the
events and the hue offset count the grid points passed (42_scheduler.md R143). -/

namespace Sys2Proof.Machine

/-! ### The times -/

theorem le_lastTime {g t : Nat} {ts : List Nat} (gaps : gapsWithin g t ts) : t ≤ lastTime t ts := by
  induction ts generalizing t with
  | nil => exact Nat.le_refl t
  | cons t' ts ih =>
    obtain ⟨later, -, rest⟩ := gaps
    exact later.trans (ih rest)

theorem gapsWithin_append {g t : Nat} {ts ts' : List Nat} :
    gapsWithin g t (ts ++ ts') ↔ gapsWithin g t ts ∧ gapsWithin g (lastTime t ts) ts' := by
  induction ts generalizing t with
  | nil => simp [gapsWithin, lastTime]
  | cons u ts ih => simp only [List.cons_append, gapsWithin, lastTime, ih, and_assoc]

theorem firesOn_le_length (t0 p t : Nat) (ts : List Nat) : firesOn t0 p t ts ≤ ts.length := by
  induction ts generalizing t with
  | nil => exact Nat.le_refl 0
  | cons t' ts ih =>
    have rest := ih t'
    rw [firesOn, List.length_cons]
    split <;> omega

/-- A trigger fires at most once for each grid point passed. -/
theorem firesOn_le {g t0 p t : Nat} {ts : List Nat} (gaps : gapsWithin g t ts) :
    periodsPassed t0 p t + firesOn t0 p t ts ≤ periodsPassed t0 p (lastTime t ts) := by
  induction ts generalizing t with
  | nil => exact Nat.le_refl _
  | cons t' ts ih =>
    obtain ⟨later, -, rest⟩ := gaps
    have passed := ih rest
    have mono := periodsPassed_mono (t0 := t0) (p := p) later
    rw [firesOn, lastTime]
    split <;> omega

/-- A gap of at most a period passes at most one grid point. -/
theorem periodsPassed_le_succ {t0 p t t' : Nat} (positive : 1 ≤ p) (gap : t' - t ≤ p) :
    periodsPassed t0 p t' ≤ periodsPassed t0 p t + 1 := by
  rw [periodsPassed, periodsPassed, ← Nat.add_div_right _ positive]
  exact Nat.div_le_div_right (by omega)

/-- A trigger whose period no gap exceeds fires once for each grid point passed (R143, item 3). -/
theorem firesOn_eq {t0 p t : Nat} {ts : List Nat} (positive : 1 ≤ p) (gaps : gapsWithin p t ts) :
    periodsPassed t0 p t + firesOn t0 p t ts = periodsPassed t0 p (lastTime t ts) := by
  induction ts generalizing t with
  | nil => rfl
  | cons t' ts ih =>
    obtain ⟨later, gap, rest⟩ := gaps
    have passed := ih rest
    have mono := periodsPassed_mono (t0 := t0) (p := p) later
    have atMostOne := periodsPassed_le_succ (t0 := t0) positive gap
    rw [firesOn, lastTime]
    split <;> omega

/-! ### One iteration -/

/-- A RUNNING block with a legal configuration, whose anchors stand on their grids from `t0` at the true time `t`. -/
structure RunsOnGrid (t0 t : Nat) (s : State) : Prop where
  running : s.mode = .running
  valid : configValid s.cfg = true
  started : t0 ≤ t
  onGrid : OnGrid t0 t s

/-- What a legal configuration and duty (b) give of each trigger: a period from 1, and no gap over 2^TIME_W less the period. -/
theorem RunsOnGrid.bounds {t0 t : Nat} {s : State} (runs : RunsOnGrid t0 t s) {d : Nat} (gap : d ≤ 2 ^ 32 - maxPeriod s.cfg) :
    (1 ≤ s.cfg.huePeriod ∧ s.cfg.huePeriod ≤ 2 ^ 32 ∧ d ≤ 2 ^ 32 - s.cfg.huePeriod) ∧
    (1 ≤ s.cfg.hbPeriod ∧ s.cfg.hbPeriod ≤ 2 ^ 32 ∧ d ≤ 2 ^ 32 - s.cfg.hbPeriod) ∧
    (1 ≤ s.cfg.framePeriod ∧ s.cfg.framePeriod ≤ 2 ^ 32 ∧ d ≤ 2 ^ 32 - s.cfg.framePeriod) := by
  obtain ⟨⟨hue, hue'⟩, ⟨hb, hb'⟩, ⟨frame, frame'⟩, -⟩ := configValid_bounds runs.valid
  rw [maxPeriod] at gap
  omega

variable {t0 t t' : Nat} {s : State}

/-- An iteration at `t'`, trigger by trigger: those that pass a grid point are due, and all stand on their grids after it. -/
theorem RunsOnGrid.triggers (runs : RunsOnGrid t0 t s) (later : t ≤ t') (gap : t' - t ≤ 2 ^ 32 - maxPeriod s.cfg) :
    (dueHue (presented (drawsAt t') s) = decide (periodsPassed t0 s.cfg.huePeriod t < periodsPassed t0 s.cfg.huePeriod t') ∧
      dueHb (presented (drawsAt t') s) = decide (periodsPassed t0 s.cfg.hbPeriod t < periodsPassed t0 s.cfg.hbPeriod t') ∧
      dueFrame (presented (drawsAt t') s) =
        decide (periodsPassed t0 s.cfg.framePeriod t < periodsPassed t0 s.cfg.framePeriod t')) ∧
    OnGrid t0 t' (iterateWith (drawsAt t') s) := by
  obtain ⟨⟨hue, hue', hueGap⟩, ⟨hb, hb', hbGap⟩, ⟨frame, frame', frameGap⟩⟩ := runs.bounds gap
  obtain ⟨onHue, onHb, onFrame⟩ := runs.onGrid
  refine ⟨⟨?_, ?_, ?_⟩, ?_, ?_, ?_⟩
  · rw [dueHue, elapsedHue, presented, present_lastHue, onHue]
    exact isDue_gridAnchor hue hue' runs.started later hueGap
  · rw [dueHb, elapsedHb, presented, present_lastHb, onHb]
    exact isDue_gridAnchor hb hb' runs.started later hbGap
  · rw [dueFrame, elapsedFrame, presented, present_lastFrame, onFrame]
    exact isDue_gridAnchor frame frame' runs.started later frameGap
  · rw [iterateWith_cfg, iterateWith, iterated_lastHue, dueHue, elapsedHue, presented, present_lastHue, onHue]
    exact anchor_gridAnchor hue hue' runs.started later hueGap
  · rw [iterateWith_cfg, iterateWith, iterated_lastHb, dueHb, elapsedHb, presented, present_lastHb, onHb]
    exact anchor_gridAnchor hb hb' runs.started later hbGap
  · rw [iterateWith_cfg, iterateWith, iterated_lastFrame, dueFrame, elapsedFrame, presented, present_lastFrame, onFrame]
    exact anchor_gridAnchor frame frame' runs.started later frameGap

theorem RunsOnGrid.afterIterate (runs : RunsOnGrid t0 t s) (later : t ≤ t') (gap : t' - t ≤ 2 ^ 32 - maxPeriod s.cfg) :
    RunsOnGrid t0 t' (iterateWith (drawsAt t') s) where
  running := (iterateWith_mode _ s).trans runs.running
  valid := (iterateWith_cfg _ s).symm ▸ runs.valid
  started := runs.started.trans later
  onGrid := (runs.triggers later gap).2

/-- What an iteration at `t'` adds to the hue offset and to the numbers of PinLevel and SinkWrite events: 1 for each trigger that
passes a grid point. -/
theorem RunsOnGrid.counts (runs : RunsOnGrid t0 t s) (later : t ≤ t') (gap : t' - t ≤ 2 ^ 32 - maxPeriod s.cfg) :
    (iterateWith (drawsAt t') s).hueOffset = s.hueOffset +
      BitVec.ofNat 8 (if periodsPassed t0 s.cfg.huePeriod t < periodsPassed t0 s.cfg.huePeriod t' then 1 else 0) ∧
    (pinLevels (iterateWith (drawsAt t') s).events).length = (pinLevels s.events).length +
      (if periodsPassed t0 s.cfg.hbPeriod t < periodsPassed t0 s.cfg.hbPeriod t' then 1 else 0) ∧
    (sinkFrames (iterateWith (drawsAt t') s).events).length = (sinkFrames s.events).length +
      (if periodsPassed t0 s.cfg.framePeriod t < periodsPassed t0 s.cfg.framePeriod t' then 1 else 0) := by
  obtain ⟨⟨hue, hb, frame⟩, -⟩ := runs.triggers later gap
  refine ⟨?_, ?_, ?_⟩
  · rw [iterateWith, iterated_hueOffset, hue]
    by_cases passes : periodsPassed t0 s.cfg.huePeriod t < periodsPassed t0 s.cfg.huePeriod t' <;> simp [passes, presented]
  · rw [iterateWith, pinLevels_iterated, hb]
    by_cases passes : periodsPassed t0 s.cfg.hbPeriod t < periodsPassed t0 s.cfg.hbPeriod t' <;> simp [passes, presented]
  · rw [iterateWith, sinkFrames_iterated, frame]
    by_cases passes : periodsPassed t0 s.cfg.framePeriod t < periodsPassed t0 s.cfg.framePeriod t' <;> simp [passes, presented]

/-! ### Runs -/

theorem RunsOnGrid.run (runs : RunsOnGrid t0 t s) (ts : List Nat) :
    Host.Core.run core ts.length (s.withDraws (ts.map drawsAt)) = .next (iterateAll (ts.map drawsAt) s) := by
  obtain ⟨-, -, -, legal⟩ := configValid_bounds runs.valid
  simpa using run_withDraws runs.running legal (ts.map drawsAt)

/-- A run under both duties leaves the anchors on their grids. -/
theorem RunsOnGrid.afterRun {ts : List Nat} (runs : RunsOnGrid t0 t s) (gaps : gapsWithin (2 ^ 32 - maxPeriod s.cfg) t ts) :
    RunsOnGrid t0 (lastTime t ts) (iterateAll (ts.map drawsAt) s) := by
  induction ts generalizing t s with
  | nil => exact runs
  | cons t' ts ih =>
    obtain ⟨later, gap, rest⟩ := gaps
    exact ih (runs.afterIterate later gap) ((iterateWith_cfg _ s).symm ▸ rest)

theorem iterateAll_cfg (ds : List Draws) (s : State) : (iterateAll ds s).cfg = s.cfg :=
  iterateAll_keeps (P := fun u => u.cfg = s.cfg) (fun _ _ same => same) (fun u same => (iterated_cfg u).trans same) rfl ds

/-- What a run adds to the hue offset and to the numbers of events: the firings of R143, item 2. -/
theorem RunsOnGrid.runCounts {ts : List Nat} (runs : RunsOnGrid t0 t s) (gaps : gapsWithin (2 ^ 32 - maxPeriod s.cfg) t ts) :
    (iterateAll (ts.map drawsAt) s).hueOffset = s.hueOffset + BitVec.ofNat 8 (firesOn t0 s.cfg.huePeriod t ts) ∧
    (pinLevels (iterateAll (ts.map drawsAt) s).events).length =
      (pinLevels s.events).length + firesOn t0 s.cfg.hbPeriod t ts ∧
    (sinkFrames (iterateAll (ts.map drawsAt) s).events).length =
      (sinkFrames s.events).length + firesOn t0 s.cfg.framePeriod t ts := by
  induction ts generalizing t s with
  | nil => simp [firesOn]
  | cons t' ts ih =>
    obtain ⟨later, gap, rest⟩ := gaps
    obtain ⟨hue, hb, frame⟩ := runs.counts later gap
    obtain ⟨hues, hbs, frames⟩ := ih (runs.afterIterate later gap) ((iterateWith_cfg _ s).symm ▸ rest)
    rw [iterateWith_cfg] at hues hbs frames
    simp only [List.map_cons, iterateAll_cons, firesOn]
    refine ⟨?_, ?_, ?_⟩
    · rw [hues, hue, BitVec.ofNat_add, BitVec.add_assoc]
    · rw [hbs, hb, Nat.add_assoc]
    · rw [frames, frame, Nat.add_assoc]

/-- At the time of START every anchor is the first point of its grid. -/
theorem gridAnchor_self (t0 p : Nat) : gridAnchor t0 p t0 = BitVec.ofNat 32 t0 := by
  rw [gridAnchor, periodsPassed_self, Nat.mul_zero, Nat.add_zero]

theorem runsOnGrid_enterRunning (valid : configValid s.cfg = true) (now : s.now = BitVec.ofNat 32 t0) :
    RunsOnGrid t0 t0 (enterRunning s) where
  running := rfl
  valid := valid
  started := Nat.le_refl t0
  onGrid := by simp [OnGrid, gridAnchor_self, now]

/-! ### The sink's rate -/

/-- The periods passed between two times take less than that time and one period. -/
theorem mul_periodsPassed_lt {p : Nat} (positive : 1 ≤ p) (started : t0 ≤ t) (later : t ≤ t') :
    (periodsPassed t0 p t' - periodsPassed t0 p t) * p < t' - t + p := by
  have last := gridPoint_le p (started.trans later)
  have first := lt_gridPoint_add (t0 := t0) (t := t) positive
  rw [gridPoint] at last first
  rw [Nat.mul_comm, Nat.mul_sub]
  omega

/-- A grid point passed after `t` lies at least a period after the one of `t`. -/
theorem gridPoint_add_le {p : Nat} (started : t0 ≤ t') (passes : periodsPassed t0 p t < periodsPassed t0 p t') :
    gridPoint t0 p t + p ≤ t' :=
  calc gridPoint t0 p t + p = t0 + p * (periodsPassed t0 p t + 1) := by rw [gridPoint, Nat.mul_succ, Nat.add_assoc]
    _ ≤ gridPoint t0 p t' := Nat.add_le_add_left (Nat.mul_le_mul_left p passes) t0
    _ ≤ t' := gridPoint_le p started

/-- The one state a run under both duties can answer. -/
theorem RunsOnGrid.eq_of_run {ts : List Nat} {u : State} (runs : RunsOnGrid t0 t s)
    (answers : Host.Core.run core ts.length (s.withDraws (ts.map drawsAt)) = .next u) : u = iterateAll (ts.map drawsAt) s :=
  Host.Outcome.next.inj (answers.symm.trans (runs.run ts))

/-- An iteration that adds a SinkWrite passes a point of the frame's grid. -/
theorem RunsOnGrid.passes_of_sinkWrite (runs : RunsOnGrid t0 t s) (later : t ≤ t') (gap : t' - t ≤ 2 ^ 32 - maxPeriod s.cfg)
    (oneFrame : (sinkFrames (iterateWith (drawsAt t') s).events).length = (sinkFrames s.events).length + 1) :
    periodsPassed t0 s.cfg.framePeriod t < periodsPassed t0 s.cfg.framePeriod t' := by
  obtain ⟨-, -, frame⟩ := runs.counts later gap
  by_contra standsStill
  rw [if_neg standsStill] at frame
  omega

end Sys2Proof.Machine
end

section
/-! SUPPORT. What the grids give of the action counts (42_scheduler.md R143) and of the sink's rate (70_reset_and_hazards.md R197,
log 18). -/

namespace Sys2Proof.Machine

/-- Settles O52. -/
theorem triggersFireOnTheirGrids : Obligations.TriggersFireOnTheirGrids := by
  intro s t0 t ts running valid started onGrid gaps
  have runs : RunsOnGrid t0 t s := ⟨running, valid, started, onGrid⟩
  obtain ⟨hue, hb, frame⟩ := runs.runCounts gaps
  refine ⟨_, runs.run ts, (runs.afterRun gaps).onGrid, ?_, hb, frame⟩
  rw [hue, BitVec.ofNat_add, BitVec.ofNat_toNat, BitVec.setWidth_eq]

/-- Settles O53: START puts the anchors on their grids, and with no gap over its period a trigger misses no grid point. -/
theorem actionCountsMatchElapsedPeriods : Obligations.ActionCountsMatchElapsedPeriods := by
  intro s s0 t0 ts now startAnswers running gaps
  obtain ⟨valid, rfl⟩ := execStart_next_running startAnswers running
  have runs := runsOnGrid_enterRunning
    (s := { s with events := s.events ++ [.pinConfig .hbPin, .pinConfig .dataPin] }) valid now
  obtain ⟨⟨huePositive, -⟩, ⟨hbPositive, -⟩, ⟨framePositive, -⟩, -⟩ := configValid_bounds valid
  have fires {p : Nat} (positive : 1 ≤ p) (within : gapsWithin p t0 ts) : firesOn t0 p t0 ts = (lastTime t0 ts - t0) / p := by
    rw [← periodsPassed, ← firesOn_eq positive within, periodsPassed_self, Nat.zero_add]
  obtain ⟨hue, hb, frame⟩ := runs.runCounts gaps
  refine ⟨_, runs.run ts, fun within => ?hue, fun within => ?hb, fun within => ?frame⟩
  case hue => exact hue.trans (by rw [enterRunning_hueOffset, BitVec.zero_add, ← fires huePositive within]; rfl)
  case hb => exact hb.trans (by rw [← fires hbPositive within]; simp)
  case frame => exact frame.trans (by rw [← fires framePositive within]; simp)

/-- Settles O55: the SinkWrites are the firings of the frame trigger. -/
theorem sinkRateIsBoundedByTheFramePeriod : Obligations.SinkRateIsBoundedByTheFramePeriod := by
  intro s t0 t ts running valid started onGrid gaps
  have runs : RunsOnGrid t0 t s := ⟨running, valid, started, onGrid⟩
  obtain ⟨-, -, ⟨positive, -⟩, -⟩ := configValid_bounds valid
  obtain ⟨-, -, frames⟩ := runs.runCounts gaps
  have atMostPoints : firesOn t0 s.cfg.framePeriod t ts ≤
      periodsPassed t0 s.cfg.framePeriod (lastTime t ts) - periodsPassed t0 s.cfg.framePeriod t := by
    have := firesOn_le (t0 := t0) (p := s.cfg.framePeriod) gaps
    omega
  exact ⟨_, _, runs.run ts, frames, firesOn_le_length .., atMostPoints,
    (Nat.mul_le_mul_right _ atMostPoints).trans_lt (mul_periodsPassed_lt positive started (le_lastTime gaps))⟩

/-- Settles O56: a SinkWrite at `t2` means that a grid point after the one of `t1` has been passed. -/
theorem sinkWriteNeedsAPeriodFromTheGridPoint : Obligations.SinkWriteNeedsAPeriodFromTheGridPoint := by
  intro s u w w' t0 t t1 t2 ts running valid started onGrid gaps runU runW runW' oneFrame point
  have runs : RunsOnGrid t0 t s := ⟨running, valid, started, onGrid⟩
  obtain ⟨-, -, ⟨positive, -⟩, -⟩ := configValid_bounds valid
  obtain ⟨later, gap, rest⟩ := gaps
  obtain ⟨between, later2, gap2, -⟩ := gapsWithin_append.1 rest
  obtain rfl : u = iterateWith (drawsAt t1) s := runs.eq_of_run (ts := [t1]) runU
  have runsU := runs.afterIterate later gap
  have cfgU : (iterateWith (drawsAt t1) s).cfg = s.cfg := iterateWith_cfg _ s
  obtain rfl := runsU.eq_of_run runW
  have runsW := runsU.afterRun (cfgU.symm ▸ between)
  have cfgW := (iterateAll_cfg (ts.map drawsAt) (iterateWith (drawsAt t1) s)).trans cfgU
  obtain rfl : w' = iterateWith (drawsAt t2) _ := runsW.eq_of_run (ts := [t2]) runW'
  have passesLast := runsW.passes_of_sinkWrite later2 (cfgW.symm ▸ gap2) oneFrame
  rw [cfgW] at passesLast
  have passes : periodsPassed t0 s.cfg.framePeriod t1 < periodsPassed t0 s.cfg.framePeriod t2 :=
    (periodsPassed_mono (le_lastTime between)).trans_lt passesLast
  have afterPoint : point + s.cfg.framePeriod ≤ t2 := gridPoint_add_le (runsW.started.trans later2) passes
  have beforeNext : t1 < point + s.cfg.framePeriod := lt_gridPoint_add positive
  obtain ⟨-, -, anchor⟩ := runsU.onGrid
  rw [cfgU] at anchor
  exact ⟨anchor, gridPoint_le _ runsU.started, afterPoint, fun onPoint => onPoint ▸ afterPoint, beforeNext.trans_le afterPoint⟩

/-! ### The sentence of R197 as written -/

/-- A block just started at time 0, with the reference configuration: its frame period is 20. -/
def startedAtZero : State := { State.reset with mode := .running }

theorem runsOnGrid_startedAtZero : RunsOnGrid 0 0 startedAtZero :=
  ⟨rfl, by decide, Nat.le_refl 0, by decide, by decide, by decide⟩

/-- Refutes O47: iterations at 35 and at 40 each pass a point of the frame grid, 20 and 40, so both hand over a frame, 5 apart. -/
theorem not_sinkWritesAFullPeriodApart : ¬ Obligations.SinkWritesAFullPeriodApart := by
  intro fullPeriod
  have gaps : gapsWithin (2 ^ 32 - maxPeriod startedAtZero.cfg) 0 [35, 40] :=
    ⟨by decide, by decide, by decide, by decide, trivial⟩
  have runs := runsOnGrid_startedAtZero
  obtain ⟨-, -, twoFrames⟩ := runs.runCounts gaps
  have apart := fullPeriod startedAtZero _ 0 0 35 40 runs.running runs.valid runs.started runs.onGrid gaps
    (runs.run [35, 40]) twoFrames
  exact absurd apart (by decide)

end Sys2Proof.Machine
end

section
/-! SUPPORT. The elements that hold no value after reset (10_state.md R31): outside RUNNING nothing reads them, START writes all of them
but the buffer, and in RUNNING a frame writes every entry of the buffer before it hands it over. -/

namespace Sys2Proof.Machine

/-- `s` with those elements as they are in `u`. -/
def withUnspecifiedOf (u s : State) : State :=
  { s with
    hueOffset := u.hueOffset, heartbeatOn := u.heartbeatOn
    lastHue := u.lastHue, lastHb := u.lastHb, lastFrame := u.lastFrame, buf := u.buf }

theorem sameButUnspecified_iff (s t : State) : SameButUnspecified s t ↔ t = withUnspecifiedOf t s := Iff.rfl

/-- Two states that show the same and go on to show the same: outside RUNNING they may differ in every element that holds no value
after reset, in RUNNING in the buffer alone. -/
inductive Alike : State → State → Prop where
  | stopped {s : State} (u : State) (mode : s.mode ≠ .running) : Alike s (withUnspecifiedOf u s)
  | running {s : State} (m : Memory) (mode : s.mode = .running) : Alike s { s with buf := m }

/-- What the block shows is the same in both. -/
theorem Alike.shows {s t : State} (alike : Alike s t) : t.mode = s.mode ∧ t.fault = s.fault ∧ t.pinLevel = s.pinLevel ∧
    t.events = s.events ∧ t.hsvIn = s.hsvIn ∧ t.rgbaOut = s.rgbaOut := by
  cases alike <;> exact ⟨rfl, rfl, rfl, rfl, rfl, rfl⟩

theorem Alike.nextStimulus_eq {s t : State} (alike : Alike s t) : nextStimulus t = nextStimulus s := by
  cases alike <;> rfl

theorem Alike.mode_eq {s t : State} (alike : Alike s t) : t.mode = s.mode := alike.shows.1

theorem Alike.consume {s t : State} (alike : Alike s t) : Alike (consume s) (consume t) := by
  cases alike with
  | stopped u mode => exact .stopped (s := Machine.consume s) u mode
  | running m mode => exact .running (s := Machine.consume s) m mode

/-- Drawing the input ports keeps two states alike. -/
theorem Alike.present {s t : State} (alike : Alike s t) (n : Time) (a b : Ack) (k : SinkStatus) :
    Alike (present n a b k s) (present n a b k t) := by
  cases alike with
  | stopped u mode => exact .stopped (s := Machine.present n a b k s) u mode
  | running m mode => exact .running (s := Machine.present n a b k s) m mode

/-- A reset event makes two such states equal: it writes each of those elements (70_reset_and_hazards.md R190). -/
theorem Alike.resetEvent {s t : State} (alike : Alike s t) : Alike (resetEvent s) (resetEvent t) := by
  have same : Machine.resetEvent t = Machine.resetEvent s := by cases alike <;> rfl
  rw [same]
  exact .stopped (s := Machine.resetEvent s) (Machine.resetEvent s) nofun

/-- The transform reads the configuration and its word alone (10_state.md R32). -/
theorem Alike.drivePorts {s t : State} (alike : Alike s t) (w : Hsv24) :
    Alike (drivePorts w (hsvToRgb s.cfg (fieldH w) (fieldS w) (fieldV w)) s)
      (drivePorts w (hsvToRgb t.cfg (fieldH w) (fieldS w) (fieldV w)) t) := by
  cases alike with
  | stopped u mode => exact .stopped (s := Machine.drivePorts w _ s) u mode
  | running m mode => exact .running (s := Machine.drivePorts w _ s) m mode

/-- START reads none of those elements, and a START that ends in RUNNING leaves only the buffer as it was (42_scheduler.md R131). -/
theorem Alike.execStart {s s' t : State} (alike : Alike s t) (started : execStart s = .next s') :
    ∃ t', execStart t = .next t' ∧ Alike s' t' := by
  obtain ⟨reset, answer⟩ := execStart_next started
  cases alike with
  | running m running => cases reset.symm.trans running
  | stopped u mode =>
    have start := execStart_of_valid (s := withUnspecifiedOf u s) reset
    obtain ⟨illegal, rfl⟩ | ⟨valid, hb, rfl⟩ | ⟨valid, hb, data, rfl⟩ | ⟨valid, hb, data, rfl⟩ := answer
    · exact ⟨_, execStart_of_config_error reset illegal, .stopped (s := raiseFault .configError s) u nofun⟩
    · refine ⟨_, start valid, ?_⟩
      rw [configurePins_of_hb_fail (s := withUnspecifiedOf u s) hb]
      exact .stopped (s := raiseFault _ (emit _ s)) u nofun
    · refine ⟨_, start valid, ?_⟩
      rw [configurePins_of_data_fail (s := withUnspecifiedOf u s) hb data]
      exact .stopped (s := raiseFault _ (emit _ (emit _ s))) u nofun
    · refine ⟨_, start valid, ?_⟩
      rw [configurePins_of_ok (s := withUnspecifiedOf u s) hb data]
      exact .running (s := enterRunning (emit _ (emit _ s))) u.buf rfl

/-- The buffer before an iteration is seen in nothing but the buffer after it. -/
theorem iterated_withBuf (s : State) (m : Memory) :
    iterated { s with buf := m } = { iterated s with buf := (iterated { s with buf := m }).buf } := by
  have parts : afterHb { s with buf := m } = { afterHb s with buf := m } := by
    rw [afterHb_eq, afterHb_eq]
    rfl
  rw [iterated, parts]
  rfl

theorem Alike.execIterate {s s' t : State} (alike : Alike s t) (answered : execIterate s = .next s') :
    ∃ t', execIterate t = .next t' ∧ Alike s' t' := by
  obtain ⟨running, renderable, rfl⟩ := execIterate_next_iff.1 answered
  cases alike with
  | stopped u stopped => exact absurd running stopped
  | running m _ =>
    refine ⟨_, execIterate_of_renderable (s := { s with buf := m }) running renderable, ?_⟩
    rw [iterated_withBuf s m]
    exact .running _ ((iterated_mode s).trans running)

/-- Two states that are alike answer every stimulus alike. -/
theorem Alike.step {s s' t : State} (alike : Alike s t) (answers : step s = .next s') :
    ∃ t', step t = .next t' ∧ Alike s' t' := by
  have sameStim := alike.nextStimulus_eq
  obtain ⟨stim, rfl⟩ | ⟨n, a, b, k, stim, mode, started⟩ | ⟨n, a, b, k, stim, mode, answered⟩ | ⟨w, stim, colored⟩ :=
    step_next answers
  · exact ⟨_, step_of_rst (sameStim.trans stim), alike.consume.resetEvent⟩
  · rw [step_of_activate_reset (sameStim.trans stim) (alike.mode_eq.trans mode)]
    exact (alike.consume.present n a b k).execStart started
  · rw [step_of_activate_running (sameStim.trans stim) (alike.mode_eq.trans mode)]
    exact (alike.consume.present n a b k).execIterate answered
  · rw [exec_decodeHsv24] at colored
    cases colored
    rw [step_of_hsvIn (sameStim.trans stim), exec_decodeHsv24]
    exact ⟨_, rfl, alike.consume.drivePorts w⟩

/-- Runs of any length from states that are alike end in states that are. -/
theorem Alike.run {k : Nat} {s s' t : State} (alike : Alike s t) (answers : Host.Core.run core k s = .next s') :
    ∃ t', Host.Core.run core k t = .next t' ∧ Alike s' t' := by
  induction k generalizing s t with
  | zero =>
    cases answers
    exact ⟨t, run_zero t, alike⟩
  | succ k ih =>
    obtain ⟨u, first, rest⟩ := run_next answers
    obtain ⟨v, first', alike'⟩ := alike.step first
    rw [run_of_next first']
    exact ih alike' rest

/-- Settles O54, by the simulation `Alike`. -/
theorem unspecifiedValuesAreNeverSeen : Obligations.UnspecifiedValuesAreNeverSeen := by
  intro k s t s' mode same answers
  have alike : Alike s t := by
    rw [(sameButUnspecified_iff s t).1 same]
    exact .stopped t (by simp [mode])
  obtain ⟨t', answers', alike'⟩ := alike.run answers
  exact ⟨t', answers', alike'.shows⟩

end Sys2Proof.Machine
end
